-- ==== Sys2Proof/Word.lean ====
section
/-! DEFINITION. The value types of the spec (R9): `uN` and `sN` are both bit vectors of N bits; whether a
vector is read signed is said where it is read (`BitVec.toInt`), never in the type. -/

namespace Sys2Proof

/-- `u8`: table bytes, samples, identifiers, persisted bytes. -/
abbrev U8 := BitVec 8

/-- `u16`: `elapsed`, `tempo`, `la`, `rsp`. -/
abbrev U16 := BitVec 16

/-- `s16`: every rate and pitch value (R21, R29); `BitVec.toInt` is its signed reading. -/
abbrev S16 := BitVec 16

/-- `u32`: the phase accumulators (R21, R24). -/
abbrev U32 := BitVec 32

/-- One 32-bit operation word (R91). -/
abbrev OpWord := BitVec 32

/-- A bank number (R28) and a slot number: `u2`, 0..3. -/
abbrev BankId := BitVec 2

/-- A step within a bank: `u5`, 0..31 (R12, R23). -/
abbrev Step32 := BitVec 5

/-- A voice number 0..5 (R5 `NVOICE`). -/
abbrev VoiceId := Fin 6

/-- A track number 0..3 (R5 `NTRACK`). -/
abbrev TrackId := Fin 4

/-- The number of a pitch sequence, a live-rate index or a fixed-rate index: 0..1 (R5 `NPSEQ`, R22). -/
abbrev PairId := Fin 2

/-- An absolute index into a 128-entry pattern array (R5 `ARRAY_LEN`, R29). -/
abbrev PatIx := Fin 128

end Sys2Proof
end

