-- ==== Sys2Proof/Config.lean ====
section
/-! DEFINITION. The configuration record `Cfg` of `00_scope.md` R6 and R7: every parameter the source leaves
open is a field. State carries a `Cfg` that no step writes (log 2), so a theorem about every state is a theorem
about every configuration. The two parameters that are functions are named by plain data: the reference
function, or one of a family of opaque functions of which nothing is known (log 3). -/

namespace Sys2Proof

/-- Where a voice takes its rate from (R7 `VRSRC`). -/
inductive RateSrc where
  | live (r : PairId)   -- live control input, with the last manual-control value as fallback
  | fixed (r : PairId)  -- a fixed-voice rate constant
  | seq (p : PairId)    -- the value loaded from PitchSequence p at trigger time
deriving DecidableEq, Repr

/-- The configuration of one voice: its table and length (R6 `TAB`, `LEN`) and its binding (R7). -/
structure VoiceCfg where
  tab : List U8
  len : U16
  vtrk : TrackId
  vstep : Bool
  vman : Bool
  vrsrc : RateSrc
deriving DecidableEq, Repr

/-- The function `NoiseBlend` of R6: the reference instantiation of R179, or any other (D14). -/
inductive BlendFn where
  | reference
  | other (n : Nat)
deriving DecidableEq, Repr

/-- The function `CcToRate` of R6: the reference `v << 4` (D26), or any other. -/
inductive CcRateFn where
  | reference
  | other (n : Nat)
deriving DecidableEq, Repr

/-- The configuration (R6, R7). Every field is named after the spec's parameter. -/
structure Cfg where
  /-- `F_TICK`: no reference value, and no rule depends on it (D4). -/
  fTick : Option Nat
  fpShift : Nat
  voices : Vector VoiceCfg 6
  clickTab : List U8
  toneBar : S16
  tone8 : S16
  tone4 : S16
  clickEnvShift : Nat
  noiseRate : S16
  mixShift : Nat
  noiseBlend : BlendFn
  liveMin : S16
  pulseTicks : U8
  /-- `ERASE_HOLD_TICKS`: used by the host's button glue alone (R209). Any value is accepted: R6 asks only for
  "multi-hundred" and the source gives no number (N6; log 28, DESIGN CHOICE). -/
  eraseHoldTicks : Nat
  pitchShift : Nat
  magic0 : U8
  magic1 : U8
  hdrSize : Nat
  slotSize : Nat
  chanDefault : U8
  autoStart : Bool
  autoStop : Bool
  autoCont : Bool
  noteTrig : Vector U8 4
  noteBank : Vector U8 4
  noteDir : U8
  noteMix : U8
  ccId : Vector U8 4
  ccToRate : CcRateFn
  /-- `TRK_LIVE`: the partial map from track to live-rate index (R7). -/
  trkLive : Vector (Option PairId) 4
deriving DecidableEq, Repr

/-- A blend function other than the reference: nothing is known of its value (log 3). R179's own condition, 0 at
click amplitude 0, is applied where it is used. -/
opaque Config.otherBlend : Nat → U8 → U8 → Nat → U8

/-- A control-value mapping other than the reference: nothing is known of its value (log 3). -/
opaque Config.otherCcToRate : Nat → U8 → S16

/-- The reference binding of R7 with the tables of `95_test_vectors.md` (`LEN[v] = 4`, five entries of 128). -/
def Config.referenceVoice (k : TrackId) (man : Bool) (src : RateSrc) : VoiceCfg :=
  { tab := [128, 128, 128, 128, 128], len := 4, vtrk := k, vstep := true, vman := man, vrsrc := src }

/-- The reference configuration: the column "reference" of R6 and R7, and the tables that
`95_test_vectors.md` uses where a vector names no other (log 2). -/
def Config.reference : Cfg where
  fTick := none
  fpShift := 8
  voices := #v[Config.referenceVoice 0 true (.live 0), Config.referenceVoice 1 true (.live 1),
    Config.referenceVoice 2 true (.fixed 0), Config.referenceVoice 3 true (.fixed 1),
    Config.referenceVoice 0 false (.seq 0), Config.referenceVoice 1 false (.seq 1)]
  clickTab := [128, 128, 128, 128]
  toneBar := 0x0300
  tone8 := 0x0200
  tone4 := 0x0100
  clickEnvShift := 8
  noiseRate := 0x0040
  mixShift := 2
  noiseBlend := .reference
  liveMin := 0
  pulseTicks := 2
  eraseHoldTicks := 512
  pitchShift := 4
  magic0 := 0xA5
  magic1 := 0x5A
  hdrSize := 16
  slotSize := 96
  chanDefault := 0
  autoStart := true
  autoStop := true
  autoCont := true
  noteTrig := #v[0x24, 0x25, 0x26, 0x27]
  noteBank := #v[0x28, 0x29, 0x2A, 0x2B]
  noteDir := 0x2C
  noteMix := 0x2D
  ccId := #v[0x10, 0x11, 0x12, 0x13]
  ccToRate := .reference
  trkLive := #v[some 0, some 1, none, none]

end Sys2Proof
end

