-- ==== Sys2Proof/Syntax.lean ====
section
/-! DEFINITION. The 26 operations of `30_encoding.md` R94, one constructor per row of `spec/opcode_table.json`.
An operand is the raw field of the word (R93): a legal word whose argument is outside the operation's legal set
is still an instruction, which the operation's own rule makes a no-op. -/

namespace Sys2Proof

/-- The operations. `a` is the 8-bit argument, `d` the 16-bit datum; `MNOTE` and `MCC` carry a channel and an
identifier, `MCC` a value (R92, R93). -/
inductive Instr where
  | tick                          -- TICK   R120
  | trig (a : U8)                 -- TRIG   R201
  | bank (a : U8)                 -- BANK   R202
  | rate (a : U8) (d : S16)       -- RATE   R203
  | live (a : U8) (d : S16)       -- LIVE   R204
  | tempo (d : U16)               -- TEMPO  R205
  | run (a : U8)                  -- RUN    R206
  | record (a : U8)               -- REC    R207
  | erase                         -- ERASE  R208
  | dir                           -- DIR    R210
  | mix                           -- MIX    R211
  | click                         -- CLICK  R212
  | ovr (a : U8)                  -- OVR    R213
  | rdla                          -- RDLA   R263
  | prd (a : U8) (d : U16)        -- PRD    R214
  | chan (a : U8)                 -- CHAN   R215
  | div (a : U8)                  -- DIV    R216
  | save (a : U8)                 -- SAVE   R238
  | load (a : U8)                 -- LOAD   R239
  | boot                          -- BOOT   R245
  | mstart                        -- MSTART R283
  | mstop                         -- MSTOP  R284
  | mcont                         -- MCONT  R285
  | mclk                          -- MCLK   R281
  | mnote (ch : U8) (id : U8)     -- MNOTE  R287
  | mcc (ch : U8) (id : U8) (value : U8)  -- MCC R289
deriving DecidableEq, Repr

end Sys2Proof
end

