-- ==== Sys2Proof/Decode.lean ====
section
/-! DEFINITION. The operation word (`30_encoding.md` R91 to R95): the decoder, total on every word and refusing
an illegal one by name, and after it the encoder, both written from the format table R92 and the opcode map R94.
All bit positions are the spec's own (D2). -/

namespace Sys2Proof

/-- Why a word is no operation (R95). -/
inductive DecodeError where
  | unknownOp (op : U8)      -- `w[31:24]` is not in the opcode map
  | reservedField (op : U8)  -- a field the format reserves is not zero
deriving DecidableEq, Repr

/-- `op = w[31:24]` (R91). -/
def opField (w : OpWord) : U8 := w.extractLsb' 24 8

/-- `a = w[23:16]` (R91). -/
def aField (w : OpWord) : U8 := w.extractLsb' 16 8

/-- `d = w[15:0]` (R91). -/
def dField (w : OpWord) : BitVec 16 := w.extractLsb' 0 16

/-- `w[15:8]`: the identifier of format C, reserved in format N (R92, R93). -/
def hiField (w : OpWord) : U8 := w.extractLsb' 8 8

/-- `w[7:0]`: the identifier of format N, the value of format C (R92, R93). -/
def loField (w : OpWord) : U8 := w.extractLsb' 0 8

/-- Accept the word if its reserved field is zero (R92, R95). -/
def ifReservedZero (w : OpWord) (zero : Bool) (i : Instr) : Except DecodeError Instr :=
  if zero then .ok i else .error (.reservedField (opField w))

/-- Format E: no operand; `a` and `d` reserved. -/
def formatE (w : OpWord) (i : Instr) : Except DecodeError Instr :=
  ifReservedZero w (aField w == 0 && dField w == 0) i

/-- Format A: one argument; `d` reserved. -/
def formatA (w : OpWord) (i : U8 → Instr) : Except DecodeError Instr :=
  ifReservedZero w (dField w == 0) (i (aField w))

/-- Format D: one datum; `a` reserved. -/
def formatD (w : OpWord) (i : BitVec 16 → Instr) : Except DecodeError Instr :=
  ifReservedZero w (aField w == 0) (i (dField w))

/-- Format AD: argument and datum; nothing reserved. -/
def formatAD (w : OpWord) (i : U8 → BitVec 16 → Instr) : Except DecodeError Instr :=
  .ok (i (aField w) (dField w))

/-- Format N: channel and identifier; `w[15:8]` reserved. -/
def formatN (w : OpWord) (i : U8 → U8 → Instr) : Except DecodeError Instr :=
  ifReservedZero w (hiField w == 0) (i (aField w) (loField w))

/-- Format C: channel, identifier and value; nothing reserved. -/
def formatC (w : OpWord) (i : U8 → U8 → U8 → Instr) : Except DecodeError Instr :=
  .ok (i (aField w) (hiField w) (loField w))

/-- The decoder: the opcode map R94 over the formats R92; every other word is illegal (R95). -/
def decode (w : OpWord) : Except DecodeError Instr :=
  match (opField w).toNat with
  | 0x01 => formatE w .tick
  | 0x10 => formatA w .trig
  | 0x11 => formatA w .bank
  | 0x12 => formatAD w .rate
  | 0x13 => formatAD w .live
  | 0x14 => formatD w .tempo
  | 0x15 => formatA w .run
  | 0x16 => formatA w .record
  | 0x17 => formatE w .erase
  | 0x18 => formatE w .dir
  | 0x19 => formatE w .mix
  | 0x1A => formatE w .click
  | 0x1B => formatA w .ovr
  | 0x1C => formatE w .rdla
  | 0x1D => formatAD w .prd
  | 0x1E => formatA w .chan
  | 0x1F => formatA w .div
  | 0x20 => formatA w .save
  | 0x21 => formatA w .load
  | 0x22 => formatE w .boot
  | 0x30 => formatE w .mstart
  | 0x31 => formatE w .mstop
  | 0x32 => formatE w .mcont
  | 0x33 => formatE w .mclk
  | 0x34 => formatN w .mnote
  | 0x35 => formatC w .mcc
  | _ => .error (.unknownOp (opField w))

/-- `{op, a, d}` (R91). -/
def wordOf (op a : U8) (d : BitVec 16) : OpWord := (op ++ a ++ d : BitVec (8 + 8 + 16))

/-- The encoder: the word of an operation, from R92 and R94. -/
def encode : Instr → OpWord
  | .tick => wordOf 0x01 0 0
  | .trig a => wordOf 0x10 a 0
  | .bank a => wordOf 0x11 a 0
  | .rate a d => wordOf 0x12 a d
  | .live a d => wordOf 0x13 a d
  | .tempo d => wordOf 0x14 0 d
  | .run a => wordOf 0x15 a 0
  | .record a => wordOf 0x16 a 0
  | .erase => wordOf 0x17 0 0
  | .dir => wordOf 0x18 0 0
  | .mix => wordOf 0x19 0 0
  | .click => wordOf 0x1A 0 0
  | .ovr a => wordOf 0x1B a 0
  | .rdla => wordOf 0x1C 0 0
  | .prd a d => wordOf 0x1D a d
  | .chan a => wordOf 0x1E a 0
  | .div a => wordOf 0x1F a 0
  | .save a => wordOf 0x20 a 0
  | .load a => wordOf 0x21 a 0
  | .boot => wordOf 0x22 0 0
  | .mstart => wordOf 0x30 0 0
  | .mstop => wordOf 0x31 0 0
  | .mcont => wordOf 0x32 0 0
  | .mclk => wordOf 0x33 0 0
  | .mnote ch id => wordOf 0x34 ch ((0 : U8) ++ id)
  | .mcc ch id value => wordOf 0x35 ch (id ++ value)

/-- One row of the opcode table: a word belongs to it when its bits under `mask` are those of `pattern`. -/
structure OpRow where
  mnemonic : String
  mask : OpWord
  pattern : OpWord
deriving DecidableEq, Repr

/-- The opcode map R94 with the masks of R92. -/
def opcodeTable : List OpRow :=
  [⟨"TICK", 0xFFFFFFFF, 0x01000000⟩, ⟨"TRIG", 0xFF00FFFF, 0x10000000⟩, ⟨"BANK", 0xFF00FFFF, 0x11000000⟩,
   ⟨"RATE", 0xFF000000, 0x12000000⟩, ⟨"LIVE", 0xFF000000, 0x13000000⟩, ⟨"TEMPO", 0xFFFF0000, 0x14000000⟩,
   ⟨"RUN", 0xFF00FFFF, 0x15000000⟩, ⟨"REC", 0xFF00FFFF, 0x16000000⟩, ⟨"ERASE", 0xFFFFFFFF, 0x17000000⟩,
   ⟨"DIR", 0xFFFFFFFF, 0x18000000⟩, ⟨"MIX", 0xFFFFFFFF, 0x19000000⟩, ⟨"CLICK", 0xFFFFFFFF, 0x1A000000⟩,
   ⟨"OVR", 0xFF00FFFF, 0x1B000000⟩, ⟨"RDLA", 0xFFFFFFFF, 0x1C000000⟩, ⟨"PRD", 0xFF000000, 0x1D000000⟩,
   ⟨"CHAN", 0xFF00FFFF, 0x1E000000⟩, ⟨"DIV", 0xFF00FFFF, 0x1F000000⟩, ⟨"SAVE", 0xFF00FFFF, 0x20000000⟩,
   ⟨"LOAD", 0xFF00FFFF, 0x21000000⟩, ⟨"BOOT", 0xFFFFFFFF, 0x22000000⟩, ⟨"MSTART", 0xFFFFFFFF, 0x30000000⟩,
   ⟨"MSTOP", 0xFFFFFFFF, 0x31000000⟩, ⟨"MCONT", 0xFFFFFFFF, 0x32000000⟩, ⟨"MCLK", 0xFFFFFFFF, 0x33000000⟩,
   ⟨"MNOTE", 0xFF00FF00, 0x34000000⟩, ⟨"MCC", 0xFF000000, 0x35000000⟩]

/-- The word is one of the row's. -/
def OpRow.covers (r : OpRow) (w : OpWord) : Bool := (w &&& r.mask) == r.pattern

/-- A serialised word: the most significant byte first (R65, D44). -/
def wordBytes (w : OpWord) : List U8 := [opField w, aField w, hiField w, loField w]

/-- Decode the first operation of a serialised trace and give the rest; fewer than four bytes are no word. -/
def decodeBytes : List U8 → Option (Except DecodeError Instr × List U8)
  | b3 :: b2 :: b1 :: b0 :: rest => some (decode (b3 ++ b2 ++ b1 ++ b0 : BitVec (8 + 8 + 8 + 8)), rest)
  | _ => none

/-- The word whose low `nbits` bits are `w`, its other bits zero. -/
def tableWord (nbits w : Nat) : OpWord := BitVec.ofNat 32 (w % 2 ^ nbits)

/-- The instruction the decoder reads from the table's word: the word is delivered whole on the control port
(R65), so it is given to `decode` as it is. -/
def decodeTableWord (nbits w : Nat) : Option Instr :=
  match decode (tableWord nbits w) with
  | .ok i => some i
  | .error _ => none

end Sys2Proof
end

