-- ==== Sys2Proof/Machine/State.lean ====
section
/-! DEFINITION. The state of CORE as plain data: `10_state.md` R21 to R34, grouped by the owner of R37, with the
command in progress as its remaining micro-operations (R33) and the environment's inputs beside it (log 1). -/

namespace Sys2Proof.Machine

/-- The registers of one voice (R21), owner T. `idx` is 32-FP_SHIFT bits wide and is held in 32 (log 17). -/
structure Voice where
  acc : U32
  idx : U32
  act : Bool
deriving DecidableEq, Repr

/-- The tick engine's registers (R21, R23, R24, R25, R34), owner T. -/
structure Engine where
  voices : Vector Voice 6
  prate : Vector S16 2
  pos : Step32
  elapsed : U16
  la : U16
  clickAcc : U32
  clickRate : S16
  /-- CLICK_ENV_SHIFT+1 bits wide, held in 16 (log 17). -/
  clickEnv : U16
  noiseAcc : U32
  pulseCnt : U8
  out : U8
  clkOut : Bool
deriving DecidableEq, Repr

/-- The request flags (R26): set by C, consumed and cleared by T. -/
structure Requests where
  req : Vector Bool 4
  pulseReq : Bool
  pulseKill : Bool
deriving DecidableEq, Repr

/-- The control port's registers (R22, R23, R25, R26, R28, R32), owner C. `recArmed` is the spec's `rec`. -/
structure Control where
  liveIn : Vector S16 2
  ccRate : Vector S16 2
  fixedRate : Vector S16 2
  tempo : U16
  run : Bool
  dir : Bool
  mix : Bool
  click : Bool
  bank : BankId
  chan : U8
  lastSlot : BankId
  recArmed : Bool
  ovr : Bool
  divN : U8
  divCnt : U8
  laHold : U16
  rsp : U16
deriving DecidableEq, Repr

/-- The pattern store (R29), owner C: `flags[k][i]` is `T[k][i]`, `pitch[p][i]` is `S[p][i]`. -/
structure Pattern where
  flags : Vector (Vector Bool 128) 4
  pitch : Vector (Vector S16 128) 2
deriving DecidableEq, Repr

/-- Bytes of the persisted region by address, in canonical form (see `Memory.wf` in Machine/Ops.lean). -/
abbrev Memory := List Host.Cell

/-- One atomic micro-operation of the control port that is still to run (R11, R33). An operand that a rule reads
"when the command starts" stands in it as a value; a value a later micro-operation needs (`x` of `SAVE`, `m0` of
`BOOT`) stands in that one. -/
inductive MicroOp where
  | request (k : TrackId)                       -- TRIG u1 (R201)
  | capture                                     -- TRIG u2: the gated read (R201, R263)
  | recordFlag (k : TrackId) (b : BankId)       -- TRIG u3
  | recordRate (r : PairId) (b : BankId)        -- TRIG u4
  | clearFlag (k : TrackId) (x : PatIx)         -- ERASE u1..u128, LOAD clear (R208, R239)
  | clearPitch (p : PairId) (x : PatIx)         -- LOAD clear
  | eraseDone                                   -- ERASE u129
  | packFlags (even odd : PatIx) (addr : Nat)   -- SAVE u1..u16 (R238)
  | packPitch (p : PairId) (x : PatIx) (addr : Nat)  -- SAVE u17..u80
  | readSettings                                -- SAVE u81, which lists u82 next (log 1)
  | writeSettings (x : U8)                      -- SAVE u82
  | writeBank                                   -- SAVE u83
  | writeChan                                   -- SAVE u84
  | writeSlot (s : BankId)                      -- SAVE u85
  | unpackFlags (even odd : PatIx) (addr : Nat)      -- LOAD u193..u208 (R239)
  | unpackPitch (p : PairId) (x : PatIx) (addr : Nat)  -- LOAD u209..u272
  | bootMagic0                                  -- BOOT u1 (R245)
  | bootMagic1 (m0 : U8)                        -- BOOT u2 and the choice it makes
  | nvFill (addr : Nat) (b : U8)                -- factory reset: one NvWrite (R246)
  | restoreSlot                                 -- restore (R247)
  | restoreSettings
  | restoreBank
  | restoreChan
deriving DecidableEq, Repr

/-- One entry of the environment's schedule (R36, R317): who moves at this boundary (log 1, log 12). -/
inductive Slot where
  | control  -- the control port makes its next move
  | command  -- the control port moves until its operation is finished: a line of a trace (R97)
  | tick     -- a strobe arrives at the boundary and is taken first (D54)
  | overlap  -- the control port makes its next move and a strobe arrives during it
deriving DecidableEq, Repr

/-- The state of CORE, its configuration and the environment's inputs. -/
structure State where
  /-- The configuration: read by every rule, written by none (R36, log 2). -/
  cfg : Cfg
  eng : Engine
  reqs : Requests
  ctl : Control
  pat : Pattern
  /-- The persisted region (R31). -/
  nv : Memory
  /-- The rest of the command in progress (R33); the control port is ready when it is empty. -/
  prog : List MicroOp
  inhibit : Bool
  tickPend : Bool
  /-- Input port `tick_stb`: a strobe that arrived and is not taken yet (R90). -/
  tickStb : Bool
  /-- Input: where further strobes fall. When it has run out, none do. -/
  sched : List Slot
  /-- Input: the words the host still puts on `cmd_word`, oldest first (R90). -/
  trace : List OpWord
  /-- Output: the samples handed over, newest first, one per `sample_stb` (R186, log 21). -/
  samples : List U8
deriving DecidableEq, Repr

/-- Why the machine stops with a fault. The hardware has no fault (R310): both are accesses to an element the spec
says does not exist, and no state that meets the invariant of Sys2Proof/Safety.lean reaches one (log 8). -/
inductive Fault where
  /-- Raised by `nvRead` and `nvWrite` for an address outside 0..NV_SIZE-1 (R76). Safe. -/
  | nvRange (addr : Nat)
  /-- Raised by the recording micro-operations of `TRIG` for an index above 127 (R61). Safe. -/
  | patternRange (index : Nat)
deriving DecidableEq, Repr

/-- Why the model gives no next state. -/
inductive Refusal where
  /-- Raised by an arm of `exec` whose instruction has no meaning yet; none has this arm. Safe. -/
  | notModelled (mnemonic : String)
  /-- Raised by the control port for a word that is no operation (R95, U8; log 5). Safe. -/
  | illegalWord (w : OpWord) (e : DecodeError)
  /-- Raised by the control port for the word of `TICK`, which only `tick_stb` can request (R91, R95, U8; log 6).
  Safe. -/
  | tickOnPort
  /-- Raised by `step` for a configuration that breaks a constraint of R6 or R7 (U15; log 7). Safe. -/
  | illFormedConfig
deriving DecidableEq, Repr

/-- The outcome of a step of this machine. -/
abbrev Result := Host.Outcome State Fault Refusal

/-- The tick engine after reset (R35). -/
def Engine.reset : Engine where
  voices := Vector.replicate 6 { acc := 0, idx := 0, act := false }
  prate := Vector.replicate 2 0
  pos := 31
  elapsed := 0
  la := 31
  clickAcc := 0
  clickRate := 0
  clickEnv := 0
  noiseAcc := 0
  pulseCnt := 0
  out := 128
  clkOut := false

/-- No request is pending (R35). -/
def Requests.none : Requests where
  req := Vector.replicate 4 false
  pulseReq := false
  pulseKill := false

/-- The control port's registers after reset (R35); `chan` is `CHAN_DEFAULT`. -/
def Control.reset (c : Cfg) : Control where
  liveIn := Vector.replicate 2 0
  ccRate := Vector.replicate 2 0
  fixedRate := Vector.replicate 2 0
  tempo := 0
  run := false
  dir := false
  mix := false
  click := false
  bank := 0
  chan := c.chanDefault
  lastSlot := 0
  recArmed := false
  ovr := false
  divN := 0
  divCnt := 0
  laHold := 0
  rsp := 0

/-- The zero-filled pattern store (R35). -/
def Pattern.zero : Pattern where
  flags := Vector.replicate 4 (Vector.replicate 128 false)
  pitch := Vector.replicate 2 (Vector.replicate 128 0)

/-- The machine after reset (R35) under a configuration, with a persisted region that reset does not touch. -/
def State.resetWith (c : Cfg) (nv : Memory) : State where
  cfg := c
  eng := Engine.reset
  reqs := Requests.none
  ctl := Control.reset c
  pat := Pattern.zero
  nv := nv
  prog := []
  inhibit := false
  tickPend := false
  tickStb := false
  sched := []
  trace := []
  samples := []

/-- The machine after reset under the reference configuration (log 2), with nothing listed in the persisted
region (log 4). -/
def State.reset : State := State.resetWith Config.reference []

end Sys2Proof.Machine
end

