-- ==== Sys2Proof/Machine/Operands.lean ====
section
/-! DEFINITION. Operand forms and data encodings: the legal sets of the 8-bit argument (R94), pattern-store
indexing (R61), the persisted layout (R232 to R235), pitch compression (R236, R237), the identifier maps (R288,
R289) and the integer operations of R9. -/

namespace Sys2Proof.Machine

/-- `MID`, the level of silence (R6, R176). -/
def mid : Nat := 128

/-- `SMAX`, the largest sample (R6, R176). -/
def smax : Nat := 255

/-- `a >>a n`, the arithmetic right shift: `floor(a / 2^n)` for every integer (R9). -/
def asr (x : Int) (n : Nat) : Int := x / 2 ^ n

/-- `clamp(x, lo, hi)` (R9). -/
def clamp (x lo hi : Int) : Int := if x < lo then lo else if hi < x then hi else x

/-! ### The 8-bit argument -/

/-- A track, bank or slot argument: legal 0..3 (R94). -/
def fourArg (a : U8) : Option (Fin 4) :=
  if h : a.toNat < 4 then some ⟨a.toNat, h⟩ else none

/-- A live-input argument: legal 0..1 (R94). -/
def twoArg (a : U8) : Option (Fin 2) :=
  if h : a.toNat < 2 then some ⟨a.toNat, h⟩ else none

/-- The register that `RATE r` writes: `cc_rate[r]` for r = 0, 1 and `fixed_rate[r-2]` for r = 2, 3 (R203). -/
inductive RateReg where
  | cc (r : PairId)
  | fixed (r : PairId)
deriving DecidableEq, Repr

/-- The rate register of an index 0..3 (R203). -/
def rateReg (r : Fin 4) : RateReg :=
  if h : r.val < 2 then .cc ⟨r.val, h⟩ else .fixed ⟨r.val - 2, by omega⟩

/-- The element `PRD array, index` reads (R214). -/
inductive PatElem where
  | flag (k : TrackId) (x : PatIx)
  | pitch (p : PairId) (x : PatIx)
deriving DecidableEq, Repr

/-- The legal operands of `PRD`: array 0..5, index 0..127 (R214). -/
def prdArg (a : U8) (d : U16) : Option PatElem :=
  if hd : d.toNat < 128 then
    if ha : a.toNat < 4 then some (.flag ⟨a.toNat, ha⟩ ⟨d.toNat, hd⟩)
    else if ha' : a.toNat < 6 then some (.pitch ⟨a.toNat - 4, by omega⟩ ⟨d.toNat, hd⟩)
    else none
  else none

/-- The 2-bit number of a bank or slot 0..3 (R202, R238). -/
def bankOf (b : Fin 4) : BankId := BitVec.ofNat 2 b.val

/-! ### Pattern-store indexing -/

/-- `BANK_OFF` (R5, R61): 0, 31, 63, 95, not multiples of 32. -/
def bankOff (b : BankId) : Nat :=
  if b = 0 then 0 else if b = 1 then 31 else if b = 2 then 63 else 95

/-- No bank offset is above 95 (R61). -/
theorem bankOff_le (b : BankId) : bankOff b ≤ 95 := by
  unfold bankOff; split_ifs <;> omega

/-- `PatIdx(i, b) = i + BANK_OFF[b]` for a step i in 0..31 (R61). -/
def patIdx (i : Step32) (b : BankId) : PatIx :=
  ⟨i.toNat + bankOff b, by have := i.isLt; have := bankOff_le b; omega⟩

/-- The index a recording uses, `la_hold + BANK_OFF[bank]` (R201); none when it is no index at all, which no `la`
in 0..31 reaches. -/
def recordIdx (laHold : U16) (b : BankId) : Option PatIx :=
  if h : laHold.toNat + bankOff b < 128 then some ⟨laHold.toNat + bankOff b, h⟩ else none

/-- The 32 steps in rising order. -/
def steps32 : List Step32 := (List.range 32).map (BitVec.ofNat 5)

/-- The four tracks in rising order. -/
def tracks4 : List TrackId := [0, 1, 2, 3]

/-! ### The persisted region -/

/-- `NV_SIZE = HDR_SIZE + 4 * SLOT_SIZE` (R31, R232). -/
def nvSize (c : Cfg) : Nat := c.hdrSize + 4 * c.slotSize

/-- `SlotBase(s) = HDR_SIZE + s * SLOT_SIZE` (R232). -/
def slotBase (c : Cfg) (s : Fin 4) : Nat := c.hdrSize + s.val * c.slotSize

/-- The settings byte `SAVE` writes: bit 0 the persisted run bit, bit 1 `dir`, bit 2 `mix`, bit 3 click always 0,
bits 7..4 zero (R234, R238 u82). -/
def settingsByte (runBit dir mix : Bool) : U8 :=
  BitVec.ofNat 8 (runBit.toNat + 2 * dir.toNat + 4 * mix.toNat)

/-- `{T[3], T[2], T[1], T[0]}` of one index as a number: bit k of the nibble is track k (R235). -/
def nibble (flags : Vector (Vector Bool 128) 4) (x : PatIx) : Nat :=
  (flags[(0 : TrackId)])[x].toNat + 2 * (flags[(1 : TrackId)])[x].toNat +
    4 * (flags[(2 : TrackId)])[x].toNat + 8 * (flags[(3 : TrackId)])[x].toNat

/-- `PackByte`: the even step in the low nibble, the odd step in the high one (R235). -/
def packByte (flags : Vector (Vector Bool 128) 4) (even odd : PatIx) : U8 :=
  BitVec.ofNat 8 (nibble flags even + 16 * nibble flags odd)

/-- `Comp(x) = clamp(x >>a PITCH_SHIFT, -128, 127) mod 256` (R236). -/
def comp (shift : Nat) (x : S16) : U8 := BitVec.ofInt 8 (clamp (asr x.toInt shift) (-128) 127)

/-- `Expand(b) = sext_16(b) << PITCH_SHIFT` (R237). -/
def expand (shift : Nat) (b : U8) : S16 := b.signExtend 16 <<< shift

/-! ### Identifier maps -/

/-- The first of 0..3 that satisfies a test. -/
def findFour (f : Fin 4 → Bool) : Option (Fin 4) :=
  if f 0 then some 0 else if f 1 then some 1 else if f 2 then some 2 else if f 3 then some 3 else none

/-- What a note identifier asks for (R287). -/
inductive NoteAct where
  | trig (k : TrackId)
  | bank (b : Fin 4)
  | dir
  | mix
  | nothing
deriving DecidableEq, Repr

/-- The note identifier map (R287, R288). -/
def noteAct (c : Cfg) (id : U8) : NoteAct :=
  match findFour (fun k => c.noteTrig[k] == id) with
  | some k => .trig k
  | none =>
    match findFour (fun b => c.noteBank[b] == id) with
    | some b => .bank b
    | none => if id = c.noteDir then .dir else if id = c.noteMix then .mix else .nothing

/-- The rate register index of a control identifier (R289). -/
def ccIndex (c : Cfg) (id : U8) : Option (Fin 4) := findFour (fun r => c.ccId[r] == id)

/-- `CcToRate` (R289): the reference `v << 4`, or the configuration's other function (log 3). -/
def ccToRate (c : Cfg) (v : U8) : S16 :=
  match c.ccToRate with
  | .reference => v.setWidth 16 <<< 4
  | .other n => Config.otherCcToRate n v

end Sys2Proof.Machine
end

