-- ==== Sys2Proof/Machine/Flags.lean ====
section
/-! DEFINITION. Every one-bit computation of the spec: the step edge (R121, R125), the quantize window (R124), the
pulse flags (R127), the track latches (R129), the voice fire (R131), the forced transport (R206, R207) and the
division hit (R281). There are no arithmetic condition codes (R26). -/

namespace Sys2Proof.Machine

/-- What phase 1 makes of position and elapsed counter, with the step edge (R121 to R123). -/
structure SeqOut where
  pos : Step32
  elapsed : U16
  edge : Bool
deriving DecidableEq, Repr

/-- Phase 1 of `TICK` before the lookahead: stopped forces (31, 0) whatever `ovr` is (R122), an override while
running holds (R123), otherwise increment, compare strictly with `tempo`, advance (R121). -/
def advance (run ovr : Bool) (tempo elapsed : U16) (pos : Step32) : SeqOut :=
  if run then
    if ovr then { pos := pos, elapsed := elapsed, edge := false }
    else if tempo.toNat < (elapsed + 1).toNat then { pos := pos + 1, elapsed := 0, edge := true }
    else { pos := pos, elapsed := elapsed + 1, edge := false }
  else { pos := 31, elapsed := 0, edge := false }

/-- The position is in the back half of its step: `elapsed > tempo div 2` (R124). -/
def backHalf (tempo elapsed : U16) : Bool := decide (tempo.toNat / 2 < elapsed.toNat)

/-- `la` as phase 1 writes it (R124). -/
def lookahead (tempo elapsed : U16) (pos : Step32) : U16 :=
  if backHalf tempo elapsed then (pos + 1).setWidth 16 else pos.setWidth 16

/-- `pulse_cnt` after the three sources of phase 2 in their order, the kill last (R127, R317 b). -/
def pulseLoad (pulseTicks pulseCnt : U8) (edge req kill : Bool) : U8 :=
  if kill then 0 else if req || edge then pulseTicks else pulseCnt

/-- The track flag latch: the step flag, only on the edge (R129). -/
def trackLatch (edge flag : Bool) : Bool := edge && flag

/-- A voice fires by its track's step flag or by a manual request, as its binding allows (R131). -/
def voiceFire (vc : VoiceCfg) (lat man : TrackId → Bool) : Bool :=
  (vc.vstep && lat vc.vtrk) || (vc.vman && man vc.vtrk)

/-- The transport a `RUN` mode asks for: 0 stop, 1 start, 2 toggle; none outside the legal set (R206). -/
def modeRequest (mode : U8) (now : Bool) : Option Bool :=
  if mode = 0 then some false else if mode = 1 then some true else if mode = 2 then some (!now) else none

/-- "while armed, transport is forced running" (R206, R207, R247). -/
def forcedRun (recArmed wanted : Bool) : Bool := wanted || recArmed

/-- A click retrigger: an edge, the click bit, and a step that is a multiple of 4 (R171). -/
def clickHit (edge click : Bool) (pos : Step32) : Bool := edge && click && pos.toNat % 4 == 0

/-- The division count reaches N (R281); N = 0 acts as 1. -/
def divHit (divCnt divN : U8) : Bool := decide (divN.toNat ≤ divCnt.toNat)

end Sys2Proof.Machine
end

