-- ==== Sys2Proof/Machine/Ops.lean ====
section
/-! DEFINITION. The named operations over the state: the persisted region (R76), the registers and the pattern
store, the gate (R263 to R265), and the micro-operations of the control port (R11, R67). There is no exception to
take and none to return from (R310, R312, R315): the one asynchronous event is the tick strobe, and taking it saves
nothing. -/

namespace Sys2Proof.Machine

/-! ### The persisted region as a list of cells -/

/-- What an address that is not listed reads as (log 4): the erased byte of the start state of
`95_test_vectors.md`. -/
def nvUnlisted : U8 := 0xFF

/-- The byte at an address. -/
def Memory.read : Memory → Nat → U8
  | [], _ => nvUnlisted
  | (b, v) :: m, a => if b = a then v else Memory.read m a

/-- Write one byte and keep the canonical form: addresses strictly rising, nothing listed that reads as unlisted. -/
def Memory.write : Memory → Nat → U8 → Memory
  | [], a, v => if v = nvUnlisted then [] else [(a, v)]
  | (b, w) :: m, a, v =>
    if a < b then (if v = nvUnlisted then (b, w) :: m else (a, v) :: (b, w) :: m)
    else if a = b then (if v = nvUnlisted then m else (a, v) :: m)
    else (b, w) :: Memory.write m a v

/-- Every address is above `lo`, they rise strictly, and no entry equals what an unlisted address reads as. -/
def Memory.wfAbove : Memory → Nat → Bool
  | [], _ => true
  | (b, v) :: m, lo => decide (lo ≤ b) && v != nvUnlisted && Memory.wfAbove m (b + 1)

/-- The canonical form. -/
def Memory.wf (m : Memory) : Bool := Memory.wfAbove m 0

/-- `NvRead(a)` (R76); none outside 0..NV_SIZE-1. -/
def nvRead (s : State) (a : Nat) : Option U8 :=
  if a < nvSize s.cfg then some (Memory.read s.nv a) else none

/-! ### Named updates, one per register -/

def State.setReq (s : State) (k : TrackId) : State :=
  { s with reqs.req := s.reqs.req.set k.val true k.isLt }
def State.setPulseReq (s : State) : State := { s with reqs.pulseReq := true }
def State.setPulseKill (s : State) : State := { s with reqs.pulseKill := true }
def State.setLiveIn (s : State) (r : PairId) (v : S16) : State :=
  { s with ctl.liveIn := s.ctl.liveIn.set r.val v r.isLt }
def State.setCcRate (s : State) (r : PairId) (v : S16) : State :=
  { s with ctl.ccRate := s.ctl.ccRate.set r.val v r.isLt }
def State.setFixedRate (s : State) (r : PairId) (v : S16) : State :=
  { s with ctl.fixedRate := s.ctl.fixedRate.set r.val v r.isLt }
def State.setTempo (s : State) (v : U16) : State := { s with ctl.tempo := v }
def State.setRun (s : State) (v : Bool) : State := { s with ctl.run := v }
def State.setDir (s : State) (v : Bool) : State := { s with ctl.dir := v }
def State.setMix (s : State) (v : Bool) : State := { s with ctl.mix := v }
def State.setClick (s : State) (v : Bool) : State := { s with ctl.click := v }
def State.setBank (s : State) (v : BankId) : State := { s with ctl.bank := v }
def State.setChan (s : State) (v : U8) : State := { s with ctl.chan := v }
def State.setLastSlot (s : State) (v : BankId) : State := { s with ctl.lastSlot := v }
def State.setRec (s : State) (v : Bool) : State := { s with ctl.recArmed := v }
def State.setOvr (s : State) (v : Bool) : State := { s with ctl.ovr := v }
def State.setDivN (s : State) (v : U8) : State := { s with ctl.divN := v }
def State.setDivCnt (s : State) (v : U8) : State := { s with ctl.divCnt := v }
def State.setLaHold (s : State) (v : U16) : State := { s with ctl.laHold := v }
def State.setRsp (s : State) (v : U16) : State := { s with ctl.rsp := v }
def State.setInhibit (s : State) (v : Bool) : State := { s with inhibit := v }
def State.setTickPend (s : State) (v : Bool) : State := { s with tickPend := v }
def State.setTickStb (s : State) (v : Bool) : State := { s with tickStb := v }
def State.setProg (s : State) (p : List MicroOp) : State := { s with prog := p }
def State.setSched (s : State) (l : List Slot) : State := { s with sched := l }
def State.setTrace (s : State) (l : List OpWord) : State := { s with trace := l }
def State.setNv (s : State) (m : Memory) : State := { s with nv := m }

/-- `T[k][x] <- v`. -/
def State.setFlag (s : State) (k : TrackId) (x : PatIx) (v : Bool) : State :=
  { s with pat.flags := s.pat.flags.set k.val (s.pat.flags[k].set x.val v x.isLt) k.isLt }

/-- `S[p][x] <- v`. -/
def State.setPitch (s : State) (p : PairId) (x : PatIx) (v : S16) : State :=
  { s with pat.pitch := s.pat.pitch.set p.val (s.pat.pitch[p].set x.val v x.isLt) p.isLt }

/-- `T[k][x]`. -/
def State.flag (s : State) (k : TrackId) (x : PatIx) : Bool := (s.pat.flags[k])[x]

/-- `S[p][x]`. -/
def State.pitch (s : State) (p : PairId) (x : PatIx) : S16 := (s.pat.pitch[p])[x]

/-! ### Shared operations -/

/-- `NvWrite(a, b)` (R76). -/
def nvWrite (s : State) (a : Nat) (b : U8) : Result :=
  if a < nvSize s.cfg then .next (s.setNv (Memory.write s.nv a b)) else .fault (.nvRange a)

/-- Continue with the byte `NvRead(a)` gives (R76). -/
def withNvByte (s : State) (a : Nat) (f : U8 → Result) : Result :=
  match nvRead s a with
  | some b => f b
  | none => .fault (.nvRange a)

/-- `LiveRate(r)`: the live input if above `LIVE_MIN`, signed and strictly, else the last manual value (R154). -/
def liveRate (s : State) (r : PairId) : S16 :=
  if s.cfg.liveMin.toInt < (s.ctl.liveIn[r]).toInt then s.ctl.liveIn[r] else s.ctl.ccRate[r]

/-- Write the rate register `RATE r` names (R203). -/
def writeRate (s : State) (r : Fin 4) (v : S16) : State :=
  match rateReg r with
  | .cc q => s.setCcRate q v
  | .fixed q => s.setFixedRate q v

/-- A strobe that arrived is held in `tick_pend` while the gate is closed (R265, R313); while it is open it stays
on the port, to be taken at the next boundary (R314). -/
def holdStrobe (s : State) : State :=
  if s.inhibit && s.tickStb then (s.setTickPend true).setTickStb false else s

/-- The gated read (R263, R201 u2): close the gate, capture all 16 bits of `la`, open the gate. A strobe that
arrives meanwhile is held. -/
def gatedCapture (s : State) : State :=
  let closed := holdStrobe (s.setInhibit true)
  (closed.setLaHold closed.eng.la).setInhibit false

/-- A strobe waits and the gate is open, so its `TICK` is next (R265, R314). -/
def State.strobeDue (s : State) : Bool := !s.inhibit && (s.tickPend || s.tickStb)

/-- The strobe is cleared by being taken, a held one first (R265, R313). -/
def State.takeStrobe (s : State) : State :=
  if s.tickPend then s.setTickPend false else s.setTickStb false

/-- Run at the recording index, which is in the store for every `la_hold` in 0..31 (R201). -/
def atRecordIdx (s : State) (b : BankId) (f : PatIx → Result) : Result :=
  match recordIdx s.ctl.laHold b with
  | some x => f x
  | none => .fault (.patternRange (s.ctl.laHold.toNat + bankOff b))

/-- Write the eight flags of a packed byte: bit k to the even step of track k, bit 4+k to the odd one (R239). -/
def unpackByte (s : State) (even odd : PatIx) (b : U8) : State :=
  let one (t : State) (k : TrackId) : State :=
    (t.setFlag k even (b.getLsbD k.val)).setFlag k odd (b.getLsbD (4 + k.val))
  one (one (one (one s 0) 1) 2) 3

/-- The two bytes read at boot are the marker (R245). -/
def magicOk (c : Cfg) (m0 m1 : U8) : Bool := m0 == c.magic0 && m1 == c.magic1

/-- The micro-operations of a factory reset: zero bytes 2..NV_SIZE-1, the channel default, the marker last
(R246). -/
def factoryOps (c : Cfg) : List MicroOp :=
  (List.range (nvSize c - 2)).map (fun a => .nvFill (a + 2) 0) ++
    [.nvFill 5 c.chanDefault, .nvFill 0 c.magic0, .nvFill 1 c.magic1]

/-- The micro-operations of the restore: one per byte read (R247, R345; log 13). -/
def restoreOps : List MicroOp := [.restoreSlot, .restoreSettings, .restoreBank, .restoreChan]

/-- Write the four settings a stored byte holds (R234, R247). -/
def applySettings (s : State) (x : U8) : State :=
  (((s.setRun (x.getLsbD 0)).setDir (x.getLsbD 1)).setMix (x.getLsbD 2)).setClick (x.getLsbD 3)

/-- One micro-operation of the control port. The caller has taken it off `prog`; a micro-operation that decides
what follows puts that in front of what is left. -/
def runMicro (u : MicroOp) (s : State) : Result :=
  match u with
  | .request k => .next (s.setReq k)
  | .capture => .next (gatedCapture s)
  | .recordFlag k b => atRecordIdx s b (fun x => .next (s.setFlag k x true))
  | .recordRate r b => atRecordIdx s b (fun x => .next (s.setPitch r x (liveRate s r)))
  | .clearFlag k x => .next (s.setFlag k x false)
  | .clearPitch p x => .next (s.setPitch p x 0)
  | .eraseDone => .next ((s.setRun true).setRec false)
  | .packFlags even odd addr => nvWrite s addr (packByte s.pat.flags even odd)
  | .packPitch p x addr => nvWrite s addr (comp s.cfg.pitchShift (s.pitch p x))
  | .readSettings => withNvByte s 3 (fun x => .next (s.setProg (.writeSettings x :: s.prog)))
  | .writeSettings x => nvWrite s 3 (settingsByte (x.getLsbD 0) s.ctl.dir s.ctl.mix)
  | .writeBank => nvWrite s 4 (s.ctl.bank.setWidth 8)
  | .writeChan => nvWrite s 5 s.ctl.chan
  | .writeSlot n => nvWrite (s.setLastSlot n) 2 (n.setWidth 8)
  | .unpackFlags even odd addr => withNvByte s addr (fun b => .next (unpackByte s even odd b))
  | .unpackPitch p x addr => withNvByte s addr (fun b => .next (s.setPitch p x (expand s.cfg.pitchShift b)))
  | .bootMagic0 => withNvByte s 0 (fun m0 => .next (s.setProg (.bootMagic1 m0 :: s.prog)))
  | .bootMagic1 m0 => withNvByte s 1 (fun m1 =>
      .next (s.setProg ((if magicOk s.cfg m0 m1 then restoreOps else factoryOps s.cfg ++ restoreOps) ++ s.prog)))
  | .nvFill a b => nvWrite s a b
  | .restoreSlot => withNvByte s 2 (fun b => .next (s.setLastSlot (b.setWidth 2)))
  | .restoreSettings => withNvByte s 3 (fun x => .next (applySettings s x))
  | .restoreBank => withNvByte s 4 (fun b => .next (s.setBank (b.setWidth 2)))
  | .restoreChan => withNvByte s 5 (fun b =>
      .next ((s.setChan b).setRun (forcedRun s.ctl.recArmed s.ctl.run)))

/-- Start a command: its first micro-operation runs now, the rest is what the port has still to do (R11, R33). -/
def issue (us : List MicroOp) (s : State) : Result :=
  match us with
  | [] => .next s
  | u :: rest => runMicro u (s.setProg (rest ++ s.prog))

end Sys2Proof.Machine
end

