-- ==== Sys2Proof/Machine/Codec.lean ====
section
/-! DEFINITION. The persisted-record codec (`44_codec.md`): `SAVE` (85 micro-operations), `LOAD` (272) and `BOOT`.
`bank` and the slot base are read when a command starts; every later value when its micro-operation runs (R238,
R239). -/

namespace Sys2Proof.Machine

/-- The even step 2j and the odd step 2j+1 of packed byte j (R235). -/
def evenStep (j : Nat) : Step32 := BitVec.ofNat 5 (2 * j)
def oddStep (j : Nat) : Step32 := BitVec.ofNat 5 (2 * j + 1)

/-- The 32 micro-operations over the compressed pitch block of sequence p (R235, R238, R239). -/
def pitchOps (op : PairId → PatIx → Nat → MicroOp) (p : PairId) (b : BankId) (addr : Nat) : List MicroOp :=
  (List.range 32).map (fun i => op p (patIdx (BitVec.ofNat 5 i) b) (addr + i))

/-- The 16 micro-operations over the packed-flags block (R235, R238, R239). -/
def flagOps (op : PatIx → PatIx → Nat → MicroOp) (b : BankId) (addr : Nat) : List MicroOp :=
  (List.range 16).map (fun j => op (patIdx (evenStep j) b) (patIdx (oddStep j) b) (addr + j))

/-- u1 to u85 of `SAVE` into the record at `base` (R238), in 84 entries: `readSettings` stands for u81 and, once it
has run, puts u82 in its place (log 1). -/
def saveOps (b : BankId) (slot : Fin 4) (base : Nat) : List MicroOp :=
  flagOps .packFlags b base ++ pitchOps .packPitch 0 b (base + 16) ++ pitchOps .packPitch 1 b (base + 48) ++
    [.readSettings, .writeBank, .writeChan, .writeSlot (bankOf slot)]

/-- The six clearing micro-operations of one step (R239). -/
def clearOps (x : PatIx) : List MicroOp :=
  tracks4.map (fun k => .clearFlag k x) ++ [.clearPitch 0 x, .clearPitch 1 x]

/-- u1 to u272 of `LOAD` from the record at `base` (R239). -/
def loadOps (b : BankId) (base : Nat) : List MicroOp :=
  steps32.flatMap (fun i => clearOps (patIdx i b)) ++ flagOps .unpackFlags b base ++
    pitchOps .unpackPitch 0 b (base + 16) ++ pitchOps .unpackPitch 1 b (base + 48)

/-- `SAVE s` (R238). -/
def execSave (a : U8) (s : State) : Result :=
  match fourArg a with
  | some n => issue (saveOps s.ctl.bank n (slotBase s.cfg n)) s
  | none => .next s

/-- `LOAD s` (R239). -/
def execLoad (a : U8) (s : State) : Result :=
  match fourArg a with
  | some n => issue (loadOps s.ctl.bank (slotBase s.cfg n)) s
  | none => .next s

/-- `BOOT` (R245): the marker is read first; what follows is decided when its second byte is read. -/
def execBoot (s : State) : Result := issue [.bootMagic0] s

end Sys2Proof.Machine
end

