-- ==== Sys2Proof/Machine/Commands.lean ====
section
/-! DEFINITION. The control loop's commands (`43_record_control.md` R201 to R216): each is one micro-operation,
except an armed `TRIG` (up to four) and `ERASE` (129). An argument outside the legal set does nothing (R93). -/

namespace Sys2Proof.Machine

/-- The micro-operations of `TRIG k`; `rec` and `bank` are read when the command starts (R201). -/
def trigOps (s : State) (k : TrackId) : List MicroOp :=
  if s.ctl.recArmed then
    match s.cfg.trkLive[k] with
    | some r => [.request k, .capture, .recordFlag k s.ctl.bank, .recordRate r s.ctl.bank]
    | none => [.request k, .capture, .recordFlag k s.ctl.bank]
  else [.request k]

/-- A manual trigger event for track k, from a command or a note message (R201, R287). -/
def manualTrigger (k : TrackId) (s : State) : Result := issue (trigOps s k) s

/-- Bank selection, from a command or a note message (R202, R287). -/
def selectBank (b : Fin 4) (s : State) : State := s.setBank (bankOf b)

/-- Toggle the play-direction (R210, R287). -/
def toggleDir (s : State) : State := s.setDir (!s.ctl.dir)

/-- Toggle the mix mode (R211, R287). -/
def toggleMix (s : State) : State := s.setMix (!s.ctl.mix)

/-- The micro-operations of `ERASE`: by step, then by track, then the transport (R208). -/
def eraseOps (b : BankId) : List MicroOp :=
  steps32.flatMap (fun i => tracks4.map (fun k => .clearFlag k (patIdx i b))) ++ [.eraseDone]

/-- The value `PRD` reads: a flag zero-extended, a pitch entry's pattern (R214). -/
def patValue (s : State) : PatElem → U16
  | .flag k x => BitVec.ofNat 16 (s.flag k x).toNat
  | .pitch p x => s.pitch p x

/-- `TRIG k` (R201). -/
def execTrig (a : U8) (s : State) : Result :=
  match fourArg a with
  | some k => manualTrigger k s
  | none => .next s

/-- `BANK b` (R202). -/
def execBank (a : U8) (s : State) : Result :=
  match fourArg a with
  | some b => .next (selectBank b s)
  | none => .next s

/-- `RATE r, value` (R203). -/
def execRate (a : U8) (d : S16) (s : State) : Result :=
  match fourArg a with
  | some r => .next (writeRate s r d)
  | none => .next s

/-- `LIVE r, value` (R204). -/
def execLive (a : U8) (d : S16) (s : State) : Result :=
  match twoArg a with
  | some r => .next (s.setLiveIn r d)
  | none => .next s

/-- `TEMPO value` (R205). -/
def execTempo (d : U16) (s : State) : Result := .next (s.setTempo d)

/-- `RUN mode` (R206): while armed the transport stays forced running. -/
def execRun (a : U8) (s : State) : Result :=
  match modeRequest a s.ctl.run with
  | some x => .next (s.setRun (forcedRun s.ctl.recArmed x))
  | none => .next s

/-- `REC mode` (R207): arming forces the transport to run, disarming leaves it. -/
def execRecord (a : U8) (s : State) : Result :=
  match modeRequest a s.ctl.recArmed with
  | some r => .next ((s.setRec r).setRun (forcedRun r s.ctl.run))
  | none => .next s

/-- `ERASE` (R208); `bank` is read when the command starts. -/
def execErase (s : State) : Result := issue (eraseOps s.ctl.bank) s

/-- `DIR` (R210). -/
def execDir (s : State) : Result := .next (toggleDir s)

/-- `MIX` (R211). -/
def execMix (s : State) : Result := .next (toggleMix s)

/-- `CLICK` (R212). -/
def execClick (s : State) : Result := .next (s.setClick (!s.ctl.click))

/-- `OVR on` (R213). -/
def execOvr (a : U8) (s : State) : Result :=
  match twoArg a with
  | some on => .next (s.setOvr (on.val == 1))
  | none => .next s

/-- `PRD array, index` (R214). -/
def execPrd (a : U8) (d : U16) (s : State) : Result :=
  match prdArg a d with
  | some e => .next (s.setRsp (patValue s e))
  | none => .next s

/-- `CHAN c` (R215). -/
def execChan (a : U8) (s : State) : Result := .next (s.setChan a)

/-- `DIV n` (R216): `div_cnt` is not reset. -/
def execDiv (a : U8) (s : State) : Result := .next (s.setDivN a)

end Sys2Proof.Machine
end

