-- ==== Sys2Proof/Machine/Handoff.lean ====
section
/-! DEFINITION. The handoff's one operation, `RDLA` (`45_handoff.md` R263). -/

namespace Sys2Proof.Machine

/-- `RDLA`: the gated read, and its copy in `rsp`, all one micro-operation (R263). -/
def execRdla (s : State) : Result :=
  let t := gatedCapture s
  .next (t.setRsp t.ctl.laHold)

end Sys2Proof.Machine
end

