-- ==== Sys2Proof/Machine/Messages.lean ====
section
/-! DEFINITION. The external messages (`46_external.md`): three transport messages and the clock message, never
filtered, and the note and control messages, filtered by channel (R280, R286). -/

namespace Sys2Proof.Machine

/-- `MSTART` (R283). -/
def execMstart (s : State) : Result :=
  .next ((s.setDivCnt 0).setRun (s.ctl.run || s.cfg.autoStart))

/-- `MSTOP` (R284): the line is forced low by the next tick; while armed the transport is not stopped. -/
def execMstop (s : State) : Result :=
  .next (((s.setDivCnt 0).setPulseKill).setRun
    (if s.cfg.autoStop && !s.ctl.recArmed then false else s.ctl.run))

/-- `MCONT` (R285). -/
def execMcont (s : State) : Result := .next (s.setRun (s.ctl.run || s.cfg.autoCont))

/-- `MCLK` (R281): counts only while stopped; the hit is on the N-th pulse. -/
def execMclk (s : State) : Result :=
  if s.ctl.run then .next s
  else if divHit (s.ctl.divCnt + 1) s.ctl.divN then .next ((s.setDivCnt 0).setPulseReq)
  else .next (s.setDivCnt (s.ctl.divCnt + 1))

/-- The operation a note identifier maps to (R287). -/
def performNote (act : NoteAct) (s : State) : Result :=
  match act with
  | .trig k => manualTrigger k s
  | .bank b => .next (selectBank b s)
  | .dir => .next (toggleDir s)
  | .mix => .next (toggleMix s)
  | .nothing => .next s

/-- `MNOTE channel, id` (R286, R287). -/
def execMnote (ch id : U8) (s : State) : Result :=
  if ch = s.ctl.chan then performNote (noteAct s.cfg id) s else .next s

/-- `MCC channel, id, value` (R286, R289). -/
def execMcc (ch id value : U8) (s : State) : Result :=
  if ch = s.ctl.chan then
    match ccIndex s.cfg id with
    | some r => .next (writeRate s r (ccToRate s.cfg value))
    | none => .next s
  else .next s

end Sys2Proof.Machine
end

