-- ==== Sys2Proof/Machine/Sequencer.lean ====
section
/-! DEFINITION. Phases 1 to 3 of `TICK` (`40_sequencer.md`): transport, advance and lookahead; the output pulse;
track latch, request consume and voice latch. -/

namespace Sys2Proof.Machine

/-- What phase 1 finds (R121 to R123). -/
def seqOut (s : State) : SeqOut := advance s.ctl.run s.ctl.ovr s.ctl.tempo s.eng.elapsed s.eng.pos

/-- Phase 1: position and elapsed counter, then the lookahead from their new values (R121 to R124). -/
def phase1 (s : State) : State :=
  let q := seqOut s
  { s with
    eng.pos := q.pos
    eng.elapsed := q.elapsed
    eng.la := lookahead s.ctl.tempo q.elapsed q.pos }

/-- Phase 2: the output pulse; both pulse requests are consumed (R127). -/
def phase2 (edge : Bool) (s : State) : State :=
  let cnt := pulseLoad s.cfg.pulseTicks s.eng.pulseCnt edge s.reqs.pulseReq s.reqs.pulseKill
  { s with
    eng.clkOut := cnt != 0
    eng.pulseCnt := if cnt = 0 then 0 else cnt - 1
    reqs.pulseReq := false
    reqs.pulseKill := false }

/-- The index the tick reads the pattern store at: `pos + BANK_OFF[bank]` (R129, R132). -/
def playIdx (s : State) : PatIx := patIdx s.eng.pos s.ctl.bank

/-- `trk_lat[k]` of this tick (R129). -/
def trkLat (edge : Bool) (s : State) (k : TrackId) : Bool := trackLatch edge (s.flag k (playIdx s))

/-- Whether voice v fires in this tick (R131); `man[k]` is the request flag before it is cleared (R130). -/
def fires (edge : Bool) (s : State) (v : VoiceId) : Bool :=
  voiceFire s.cfg.voices[v] (trkLat edge s) (fun k => s.reqs.req[k])

/-- Voice v after the latch: active from phase 0 if it fires (R131). -/
def latchVoice (fire : Bool) (vo : Voice) : Voice :=
  if fire then { acc := 0, idx := 0, act := true } else vo

/-- PitchVoice p's voice fires, so its rate is loaded (R132). -/
def pitchFires (edge : Bool) (s : State) (p : PairId) : Bool :=
  (List.finRange 6).any (fun v => s.cfg.voices[v].vrsrc == .seq p && fires edge s v)

/-- Phase 3: latch the voices, load the pitch rates, consume every request (R129 to R132). -/
def phase3 (edge : Bool) (s : State) : State :=
  { s with
    eng.voices := Vector.ofFn (fun v => latchVoice (fires edge s v) s.eng.voices[v])
    eng.prate := Vector.ofFn (fun p => if pitchFires edge s p then s.pitch p (playIdx s) else s.eng.prate[p])
    reqs.req := Vector.replicate 4 false }

end Sys2Proof.Machine
end

