-- ==== Sys2Proof/Machine/VoiceUnit.lean ====
section
/-! DEFINITION. Phases 4 and 5 of `TICK` (`41_voice.md`): the phase accumulator and table-index unit of each voice,
and the sample it contributes. -/

namespace Sys2Proof.Machine

/-- `rate(v)` of this tick, by the voice's rate source (R154). -/
def voiceRate (s : State) (v : VoiceId) : S16 :=
  match s.cfg.voices[v].vrsrc with
  | .live r => liveRate s r
  | .fixed r => s.ctl.fixedRate[r]
  | .seq p => s.eng.prate[p]

/-- Advance an active voice by its rate, take its index, and finish it past the last table index (R151 to R153); an
inactive voice is not touched (R150). -/
def stepVoice (fpShift : Nat) (len : U16) (rate : S16) (vo : Voice) : Voice :=
  if vo.act then
    let acc := vo.acc + rate.signExtend 32
    let idx := acc >>> fpShift
    if len.toNat < idx.toNat then { acc := 0, idx := 0, act := false }
    else { acc := acc, idx := idx, act := true }
  else vo

/-- Phase 4: every voice in turn; the voices do not interact (R150). -/
def phase4 (s : State) : State :=
  { s with
    eng.voices := Vector.ofFn (fun v =>
      stepVoice s.cfg.fpShift s.cfg.voices[v].len (voiceRate s v) s.eng.voices[v]) }

/-- `ridx`: the forward index, or its mirror in reverse-play (R155, conflict C3). -/
def readIdx (dir : Bool) (len : U16) (idx : U32) : Nat :=
  if dir then len.toNat - idx.toNat else idx.toNat

/-- `s[v]`: the signed centered sample of a voice, 0 when it is not latched (R156). A well-formed configuration's
table reaches every index read here (R63; log 7). -/
def voiceSample (vc : VoiceCfg) (dir : Bool) (vo : Voice) : Int :=
  if vo.act then ((vc.tab.getD (readIdx dir vc.len vo.idx) 0).toNat : Int) - (mid : Int) else 0

/-- `s[v]` in a state as phase 4 leaves it. -/
def sampleOf (s : State) (v : VoiceId) : Int :=
  voiceSample s.cfg.voices[v] s.ctl.dir s.eng.voices[v]

end Sys2Proof.Machine
end

