-- ==== Sys2Proof/Machine/Mixer.lean ====
section
/-! DEFINITION. Phase 6 of `TICK` (`42_mixer_click.md`): click oscillator and envelope, noise, mixer, fold-back
soft clip and sample output, in the order of R170. -/

namespace Sys2Proof.Machine

/-- The tone of a retriggering step: step 0 over every 8th over every 4th (R171, conflict C9). -/
def clickTone (c : Cfg) (pos : Step32) : S16 :=
  if pos = 0 then c.toneBar else if pos.toNat % 8 = 0 then c.tone8 else c.tone4

/-- The envelope's maximum `2^CLICK_ENV_SHIFT` (R172). -/
def envMax (c : Cfg) : U16 := BitVec.ofNat 16 (2 ^ c.clickEnvShift)

/-- Click retrigger (R171). -/
def retrigger (edge : Bool) (s : State) : State :=
  if clickHit edge s.ctl.click s.eng.pos then
    { s with eng.clickRate := clickTone s.cfg s.eng.pos, eng.clickEnv := envMax s.cfg }
  else s

/-- The click and noise accumulators advance every tick (R173, R174). -/
def oscillate (s : State) : State :=
  { s with
    eng.clickAcc := s.eng.clickAcc + s.eng.clickRate.signExtend 32
    eng.noiseAcc := s.eng.noiseAcc + s.cfg.noiseRate.signExtend 32 }

/-- `ClickRead((acc >>l FP_SHIFT) mod CLICK_SIZE)` (R173, R174). -/
def clickRead (c : Cfg) (acc : U32) : U8 :=
  c.clickTab.getD ((acc >>> c.fpShift).toNat % c.clickTab.length) 0

/-- `c_s`, the click sample scaled by the envelope (R173). -/
def clickSample (shift : Nat) (raw : U8) (env : Nat) : Int :=
  asr (((raw.toNat : Int) - (mid : Int)) * (env : Int)) shift

/-- `NoiseBlend` (R179): the reference, or the configuration's other function, which is 0 at amplitude 0
(log 3). -/
def noiseBlend (c : Cfg) (cRaw nRaw : U8) (env : Nat) : U8 :=
  match c.noiseBlend with
  | .reference => BitVec.ofNat 8 (((cRaw &&& nRaw).toNat * env) >>> c.clickEnvShift)
  | .other n => if env = 0 then 0 else Config.otherBlend n cRaw nRaw env

/-- `sum_v` (R175). -/
def voiceSum (s : State) : Int :=
  sampleOf s 0 + sampleOf s 1 + sampleOf s 2 + sampleOf s 3 + sampleOf s 4 + sampleOf s 5

/-- `any_act` (R175). -/
def anyAct (s : State) : Bool := s.eng.voices.toList.any Voice.act

/-- Plain mode (R178). -/
def plainMix (mixShift : Nat) (sumV cS : Int) : Int := (mid : Int) + asr (sumV + cS) mixShift

/-- `vt`: the centred voice term, forced to silence when no voice is latched (R180, R181). -/
def voiceTerm (mixShift : Nat) (any : Bool) (sumV : Int) : Int :=
  if any then (mid : Int) + asr sumV mixShift else (mid : Int)

/-- The XOR of the 16-bit pattern of `vt` with the blend, read back signed (R9, R180). -/
def accentMix (vt : Int) (blend : U8) : Int := (BitVec.ofInt 16 vt ^^^ blend.setWidth 16).toInt

/-- The fold-back clip, applied once (R184). -/
def foldBack (pre : Int) : Int :=
  if (smax : Int) < pre then 2 * (smax : Int) - pre else if pre < 0 then -pre else pre

/-- `post mod 256` (R187). -/
def truncate8 (post : Int) : U8 := BitVec.ofInt 8 post

/-- The mixed value `pre` of a state as `oscillate` leaves it, by mode (R177 to R181). -/
def mixed (s : State) : Int :=
  let env := s.eng.clickEnv.toNat
  let cRaw := clickRead s.cfg s.eng.clickAcc
  if s.ctl.mix then
    accentMix (voiceTerm s.cfg.mixShift (anyAct s) (voiceSum s))
      (noiseBlend s.cfg cRaw (clickRead s.cfg s.eng.noiseAcc) env)
  else plainMix s.cfg.mixShift (voiceSum s) (clickSample s.cfg.clickEnvShift cRaw env)

/-- The sample of this tick, handed to the output transport (R184, R186, R187). -/
def output (s : State) : State :=
  let sample := truncate8 (foldBack (mixed s))
  { s with eng.out := sample, samples := sample :: s.samples }

/-- The envelope decrement, last in phase 6 (R172). -/
def decayEnv (s : State) : State :=
  { s with eng.clickEnv := if s.eng.clickEnv = 0 then 0 else s.eng.clickEnv - 1 }

/-- Phase 6 in the order of R170. -/
def phase6 (edge : Bool) (s : State) : State := decayEnv (output (oscillate (retrigger edge s)))

end Sys2Proof.Machine
end

