-- ==== Sys2Proof/Machine/Tick.lean ====
section
/-! DEFINITION. `TICK` (R120): one atomic step of the tick engine, six phases in fixed order, each seeing the
writes of the earlier ones. `step_edge` and `trk_lat` are values inside it (R26, R36). -/

namespace Sys2Proof.Machine

/-- The step-changed edge of the tick that starts in s (R125). -/
def stepEdge (s : State) : Bool := (seqOut s).edge

/-- The state after phase 4, from which phases 5 and 6 read the voices. -/
def afterVoices (s : State) : State :=
  phase4 (phase3 (stepEdge s) (phase2 (stepEdge s) (phase1 s)))

/-- One tick (R120). -/
def tick (s : State) : State := phase6 (stepEdge s) (afterVoices s)

/-- `TICK` (R120): it cannot fail. -/
def execTick (s : State) : Result := .next (tick s)

end Sys2Proof.Machine
end

