-- ==== Sys2Proof/Machine/Dispatch.lean ====
section
/-! DEFINITION. One arm per operation of the opcode map R94. -/

namespace Sys2Proof.Machine

def exec (i : Instr) (s : State) : Host.Outcome State Fault Refusal :=
  match i with
  | .tick => Sys2Proof.Machine.execTick s
  | .trig a => Sys2Proof.Machine.execTrig a s
  | .bank a => Sys2Proof.Machine.execBank a s
  | .rate a d => Sys2Proof.Machine.execRate a d s
  | .live a d => Sys2Proof.Machine.execLive a d s
  | .tempo d => Sys2Proof.Machine.execTempo d s
  | .run a => Sys2Proof.Machine.execRun a s
  | .record a => Sys2Proof.Machine.execRecord a s
  | .erase => Sys2Proof.Machine.execErase s
  | .dir => Sys2Proof.Machine.execDir s
  | .mix => Sys2Proof.Machine.execMix s
  | .click => Sys2Proof.Machine.execClick s
  | .ovr a => Sys2Proof.Machine.execOvr a s
  | .rdla => Sys2Proof.Machine.execRdla s
  | .prd a d => Sys2Proof.Machine.execPrd a d s
  | .chan a => Sys2Proof.Machine.execChan a s
  | .div a => Sys2Proof.Machine.execDiv a s
  | .save a => Sys2Proof.Machine.execSave a s
  | .load a => Sys2Proof.Machine.execLoad a s
  | .boot => Sys2Proof.Machine.execBoot s
  | .mstart => Sys2Proof.Machine.execMstart s
  | .mstop => Sys2Proof.Machine.execMstop s
  | .mcont => Sys2Proof.Machine.execMcont s
  | .mclk => Sys2Proof.Machine.execMclk s
  | .mnote ch id => Sys2Proof.Machine.execMnote ch id s
  | .mcc ch id value => Sys2Proof.Machine.execMcc ch id value s

end Sys2Proof.Machine
end

