-- ==== Sys2Proof/WellFormed.lean ====
section
/-! DEFINITION. What is well formed. `Instr.inLegalSet` is the column "legal a" of R94: outside it an operation
is executed and does nothing (R93), so it is no condition of encoding. `Cfg.wf` gathers the constraints of R6 and
R7 on a configuration; the machine refuses a configuration that breaks one (`93_implementation_defined.md` U15,
log 7). -/

namespace Sys2Proof

/-- The argument is in the operation's legal set (R94, "legal a"; for `PRD` the datum too, R214). -/
def Instr.inLegalSet : Instr → Bool
  | .tick => true
  | .trig a => a.toNat < 4
  | .bank a => a.toNat < 4
  | .rate a _ => a.toNat < 4
  | .live a _ => a.toNat < 2
  | .tempo _ => true
  | .run a => a.toNat < 3
  | .record a => a.toNat < 3
  | .erase => true
  | .dir => true
  | .mix => true
  | .click => true
  | .ovr a => a.toNat < 2
  | .rdla => true
  | .prd a d => a.toNat < 6 && d.toNat < 128
  | .chan _ => true
  | .div _ => true
  | .save a => a.toNat < 4
  | .load a => a.toNat < 4
  | .boot => true
  | .mstart => true
  | .mstop => true
  | .mcont => true
  | .mclk => true
  | .mnote _ _ => true
  | .mcc _ _ _ => true

/-- No value occurs twice. -/
def distinct : List U8 → Bool
  | [] => true
  | x :: xs => !xs.contains x && distinct xs

/-- `FP_SHIFT`: `0 < FP_SHIFT < 32` (R6). -/
def Cfg.fpShiftOk (c : Cfg) : Bool := decide (0 < c.fpShift) && decide (c.fpShift < 32)

/-- `TAB[v]` has `LEN[v] + 1` entries and `LEN[v] < 2^(32-FP_SHIFT)` (R6, R63). -/
def VoiceCfg.tableOk (fpShift : Nat) (v : VoiceCfg) : Bool :=
  v.tab.length == v.len.toNat + 1 && decide (v.len.toNat < 2 ^ (32 - fpShift))

/-- Every voice's table is as R6 and R63 ask. -/
def Cfg.tablesOk (c : Cfg) : Bool := c.voices.toList.all (VoiceCfg.tableOk c.fpShift)

/-- `CLICK_SIZE >= 1` (R6). -/
def Cfg.clickTabOk (c : Cfg) : Bool := !c.clickTab.isEmpty

/-- `CLICK_ENV_SHIFT` is in 1..15 (R6). -/
def Cfg.clickEnvShiftOk (c : Cfg) : Bool := decide (1 ≤ c.clickEnvShift) && decide (c.clickEnvShift ≤ 15)

/-- `MIX_SHIFT` is in 0..7 (R6). -/
def Cfg.mixShiftOk (c : Cfg) : Bool := decide (c.mixShift ≤ 7)

/-- `PULSE_TICKS` is at least 1 (R6). -/
def Cfg.pulseTicksOk (c : Cfg) : Bool := c.pulseTicks != 0

/-- `0 <= PITCH_SHIFT < 8` (R6). -/
def Cfg.pitchShiftOk (c : Cfg) : Bool := decide (c.pitchShift < 8)

/-- `MAGIC0` and `MAGIC1` are not both 0 (R6). -/
def Cfg.magicOk (c : Cfg) : Bool := c.magic0 != 0 || c.magic1 != 0

/-- `HDR_SIZE` is at least 6 (R6, R232). -/
def Cfg.hdrSizeOk (c : Cfg) : Bool := decide (6 ≤ c.hdrSize)

/-- `SLOT_SIZE` is at least 80 (R6, R232). -/
def Cfg.slotSizeOk (c : Cfg) : Bool := decide (80 ≤ c.slotSize)

/-- The ten note identifiers are pairwise distinct (R6, R288). -/
def Cfg.noteIdsOk (c : Cfg) : Bool :=
  distinct (c.noteTrig.toList ++ c.noteBank.toList ++ [c.noteDir, c.noteMix])

/-- The four control identifiers are pairwise distinct (R6). -/
def Cfg.ccIdsOk (c : Cfg) : Bool := distinct c.ccId.toList

/-- The source is that of a trigger voice, not of a PitchVoice (R7). -/
def RateSrc.isTrigger : RateSrc → Bool
  | .live _ => true
  | .fixed _ => true
  | .seq _ => false

/-- Voices 0..3 are trigger voices, voices 4 and 5 the PitchVoices 0 and 1 (R5 `NVOICE`, R7; log 18). -/
def Cfg.bindingOk (c : Cfg) : Bool :=
  c.voices[0].vrsrc.isTrigger && c.voices[1].vrsrc.isTrigger && c.voices[2].vrsrc.isTrigger &&
    c.voices[3].vrsrc.isTrigger && c.voices[4].vrsrc == .seq 0 && c.voices[5].vrsrc == .seq 1

/-- Every constraint of R6 and R7 on a configuration that can be checked: R6's "multi-hundred" for
`ERASE_HOLD_TICKS` names no bound (N6) and is left unchecked (log 28, DESIGN CHOICE), and the conditions on
`NoiseBlend` and `CcToRate` are met by how they are named (log 3). -/
def Cfg.wf (c : Cfg) : Bool :=
  c.fpShiftOk && (c.tablesOk && (c.clickTabOk && (c.clickEnvShiftOk && (c.mixShiftOk && (c.pulseTicksOk &&
    (c.pitchShiftOk && (c.magicOk && (c.hdrSizeOk && (c.slotSizeOk && (c.noteIdsOk && (c.ccIdsOk &&
      c.bindingOk)))))))))))

end Sys2Proof
end

