-- ==== Sys2Proof/Machine/Port.lean ====
section
/-! DEFINITION. The control port and the strobe (`60_exceptions.md` R313 to R317): one move of agent C, and what a
strobe at a boundary does. -/

namespace Sys2Proof.Machine

/-- `cmd_ready` (R90): the previous operation has finished. -/
def State.cmdReady (s : State) : Bool := s.prog.isEmpty

/-- Take the next word on `cmd_word` (R90, R91): a legal word is executed, an illegal one refused (R95, log 5), and
so is the word of `TICK`, which only the strobe can request (R91, R95, U8; log 6). With no word left the port
waits. -/
def acceptWord (s : State) : Result :=
  match s.trace with
  | [] => .next s
  | w :: ws =>
    match decode w with
    | .ok i => if i = .tick then .refused .tickOnPort else exec i (s.setTrace ws)
    | .error e => .refused (.illegalWord w e)

/-- One move of the control port: the next micro-operation of the command in progress, or the next word (R11,
R90). -/
def controlMove (s : State) : Result :=
  match s.prog with
  | u :: us => runMicro u (s.setProg us)
  | [] => acceptWord s

/-- A strobe at a boundary: the whole `TICK` now, or held while the gate is closed (R265, R313, R314). -/
def strobe (s : State) : Result :=
  if s.inhibit then .next (s.setTickPend true) else exec .tick s

/-- Keep the slot of a trace line until its operation is finished (R97). -/
def keepLine (rest : List Slot) : Result → Result
  | .next t => .next (if t.prog = [] then t else t.setSched (.command :: rest))
  | .fault r => .fault r
  | .refused r => .refused r

/-- What happens at the next boundary: a waiting strobe first, else what the schedule says (R314, R317). -/
def advanceMachine (s : State) : Result :=
  if s.strobeDue then exec .tick s.takeStrobe
  else
    match s.sched with
    | .tick :: rest => strobe (s.setSched rest)
    | .control :: rest => controlMove (s.setSched rest)
    | .command :: rest => keepLine rest (controlMove (s.setSched rest))
    | .overlap :: rest => controlMove ((s.setSched rest).setTickStb true)
    | [] => controlMove s

/-- A step: a configuration that breaks a constraint of R6 or R7 is refused (U15, log 7). -/
def stepMachine (s : State) : Result :=
  if s.cfg.wf then advanceMachine s else .refused .illFormedConfig

/-- The word is the one that stands for a tick in a trace (R91, R97). -/
def isTickWord (w : OpWord) : Bool :=
  match decode w with
  | .ok i => i == .tick
  | .error _ => false

/-- What one line of a trace schedules: a `TICK` is a strobe, any other word an operation run to its end (R97). -/
def lineSlot (w : OpWord) : Slot := if isTickWord w then .tick else .command

/-- What the pair of lines "an operation; `AT j: TICKS n`" schedules: j micro-operations, n strobes, the rest
(R98). -/
def atSlots (j n : Nat) : List Slot := List.replicate j .control ++ List.replicate n .tick ++ [.command]

/-- Load a trace (R97): its `TICK`s become strobes, its other words go to the control port, in order. -/
def placeTrace (s : State) (l : List OpWord) : State :=
  { s with
    trace := s.trace ++ l.filter (fun w => !isTickWord w)
    sched := s.sched ++ l.map lineSlot }

/-- Make a word the very next thing that runs, with nothing in progress and no strobe before it: the word of `TICK`
is a strobe, any other word goes to the control port (R91; log 26). -/
def placeWord (s : State) (w : OpWord) : State :=
  { s with
    trace := if isTickWord w then s.trace else w :: s.trace
    prog := []
    sched := if isTickWord w then [.tick] else []
    inhibit := false
    tickPend := false
    tickStb := false }

end Sys2Proof.Machine
end

