-- ==== Sys2Proof/Machine/Step.lean ====
section
/-! DEFINITION. One step of CORE (R11, R70): a whole `TICK`, one micro-operation of the command in progress, or the
first micro-operation of the next command. -/

namespace Sys2Proof.Machine

/-- One atomic step. -/
def step (s : State) : Host.Outcome State Fault Refusal := stepMachine s

/-- The state whose very next step runs the word with low bits `w` (log 26). -/
def State.withFetchWord (s : State) (nbits w : Nat) : State := placeWord s (tableWord nbits w)

end Sys2Proof.Machine
end

