-- ==== Sys2Proof/Safety.lean ====
section
/-! DEFINITION. What counts as a good state and a good run, in the terms the statements use: the invariant, the
ownership views of R37, whole commands as runs of their micro-operations, and ticks between them. -/

namespace Sys2Proof.Machine

/-! ### The invariant -/

/-- A voice that is off has accumulator and index 0; one that is on has the index of its accumulator, within its
table (R21, R63, R153). -/
def voiceOk (c : Cfg) (v : VoiceId) (vo : Voice) : Prop :=
  if vo.act then vo.idx = vo.acc >>> c.fpShift ∧ vo.idx.toNat ≤ (c.voices[v].len).toNat
  else vo.acc = 0 ∧ vo.idx = 0

/-- The persisted address a micro-operation stores to, if it stores (R238, R246). -/
def MicroOp.storeAddr : MicroOp → Option Nat
  | .packFlags _ _ addr => some addr
  | .packPitch _ _ addr => some addr
  | .writeSettings _ => some 3
  | .writeBank => some 4
  | .writeChan => some 5
  | .writeSlot _ => some 2
  | .nvFill addr _ => some addr
  | _ => none

/-- The persisted address a micro-operation names in itself, as one computed when its command started. -/
def MicroOp.namedAddr : MicroOp → Option Nat
  | .packFlags _ _ addr => some addr
  | .packPitch _ _ addr => some addr
  | .unpackFlags _ _ addr => some addr
  | .unpackPitch _ _ addr => some addr
  | .nvFill addr _ => some addr
  | _ => none

/-- Wherever a restore of the settings is still to run, the micro-operation that forces the transport again is
still to run after it (R247). -/
def restoreClosed : List MicroOp → Bool
  | [] => true
  | .restoreSettings :: us => us.contains .restoreChan && restoreClosed us
  | _ :: us => restoreClosed us

/-- What every step keeps (Obligations.EveryStepKeepsTheInvariant) and reset has. -/
structure Inv (s : State) : Prop where
  /-- The configuration meets R6 and R7. -/
  cfgOk : s.cfg.wf = true
  voices : ∀ v : VoiceId, voiceOk s.cfg v s.eng.voices[v]
  /-- `la[15:5]` is always 0 (R23); so is `la_hold[15:5]`. -/
  la : s.eng.la.toNat < 32
  laHold : s.ctl.laHold.toNat < 32
  /-- The envelope is in 0..2^CLICK_ENV_SHIFT (R24). -/
  clickEnv : s.eng.clickEnv.toNat ≤ 2 ^ s.cfg.clickEnvShift
  /-- A pulse has at most PULSE_TICKS - 1 ticks to go after a tick (R127). -/
  pulse : s.eng.pulseCnt.toNat < s.cfg.pulseTicks.toNat
  /-- The persisted region is in canonical form and within 0..NV_SIZE-1. -/
  nvCanonical : Memory.wf s.nv = true
  nvBounded : ∀ c ∈ s.nv, c.1 < nvSize s.cfg
  /-- The gate is open between micro-operations (R33, R264). -/
  gateOpen : s.inhibit = false
  /-- Every persisted address a waiting micro-operation names exists (R76). -/
  progBounded : ∀ u ∈ s.prog, ∀ a, u.namedAddr = some a → a < nvSize s.cfg
  progClosed : restoreClosed s.prog = true
  /-- While armed the transport runs (R218), except inside a restore that will force it again (R247). -/
  forced : s.ctl.recArmed = true → s.ctl.run = true ∨ MicroOp.restoreChan ∈ s.prog

/-- The persisted run bit is 0 and nothing still to run can set it (R354). -/
structure RunBitClear (s : State) : Prop where
  cfgOk : s.cfg.wf = true
  bit : (Memory.read s.nv 3).getLsbD 0 = false
  canonical : Memory.wf s.nv = true
  settings : ∀ x, MicroOp.writeSettings x ∈ s.prog → x.getLsbD 0 = false
  fills : ∀ b, MicroOp.nvFill 3 b ∈ s.prog → b.getLsbD 0 = false
  packs : ∀ u ∈ s.prog, (∀ e o a, u = .packFlags e o a → a ≠ 3) ∧ (∀ p x a, u = .packPitch p x a → a ≠ 3)

/-! ### Ownership and agreement (R37) -/

/-- The request flags of t are those of s or raised: the control port only ever writes 1 to one (R261). -/
def onlyRaised (s t : State) : Prop :=
  (∀ k : TrackId, s.reqs.req[k] = true → t.reqs.req[k] = true) ∧
    (s.reqs.pulseReq = true → t.reqs.pulseReq = true) ∧ (s.reqs.pulseKill = true → t.reqs.pulseKill = true)

/-- Two states that are the same to the control port: configuration, control-owned state, what is still to do and
still to come. They may differ in everything the tick engine owns and in the request flags. -/
def sameControl (s t : State) : Prop :=
  s.cfg = t.cfg ∧ s.ctl = t.ctl ∧ s.pat = t.pat ∧ s.nv = t.nv ∧ s.prog = t.prog ∧ s.trace = t.trace

/-- Two outcomes that are the same to the control port: both next states that are, or the same stop. -/
def sameOutcome : Result → Result → Prop
  | .next s, .next t => sameControl s t
  | .fault r, .fault q => r = q
  | .refused r, .refused q => r = q
  | _, _ => False

/-! ### Runs -/

/-- No strobe waits and none is scheduled. -/
def State.quiet (s : State) : Prop :=
  s.inhibit = false ∧ s.tickPend = false ∧ s.tickStb = false ∧ s.sched = []

/-- n moves of the control port with no tick between them. -/
def moves : Nat → State → Result
  | 0, s => .next s
  | n + 1, s =>
    match controlMove s with
    | .next t => moves n t
    | .fault r => .fault r
    | .refused r => .refused r

/-- A command and n further moves of the control port, with no tick between them: its first micro-operation and its
next n. -/
def perform (i : Instr) (n : Nat) (s : State) : Result :=
  match exec i s with
  | .next t => moves n t
  | .fault r => .fault r
  | .refused r => .refused r

/-- n ticks and nothing between them. -/
def ticks : Nat → State → State
  | 0, s => s
  | n + 1, s => ticks n (tick s)

/-- The same operation n times, each run as the control port would start it. -/
def repeated (i : Instr) : Nat → State → Result
  | 0, s => .next s
  | n + 1, s =>
    match exec i s with
    | .next t => repeated i n t
    | .fault r => .fault r
    | .refused r => .refused r

/-- Ticks (`true`) and moves of the control port (`false`) in the order of a schedule. -/
def interleave : List Bool → State → Result
  | [], s => .next s
  | true :: l, s => interleave l (tick s)
  | false :: l, s =>
    match controlMove s with
    | .next t => interleave l t
    | .fault r => .fault r
    | .refused r => .refused r

/-! ### The spec's own formulas, for the statements

Written out from the rules, and used by no definition of the machine. -/

/-- The first index of a bank's window: 0, 31, 63, 95 (R61, R62). -/
def windowFirst (b : BankId) : Nat :=
  match b.toNat with
  | 0 => 0
  | 1 => 31
  | 2 => 63
  | _ => 95

/-- No window starts above 95 (R62). -/
theorem windowFirst_le (b : BankId) : windowFirst b ≤ 95 := by
  unfold windowFirst; split <;> omega

/-- The index of step i of a bank (R61). -/
def windowAt (i : Step32) (b : BankId) : PatIx :=
  ⟨i.toNat + windowFirst b, by have := i.isLt; have := windowFirst_le b; omega⟩

/-- The window of a bank: the 32 indices its steps have (R62). -/
def inWindow (b : BankId) (x : PatIx) : Prop := windowFirst b ≤ x.val ∧ x.val ≤ windowFirst b + 31

/-- Voice v latches in the tick that starts in s: by its track's step flag at the new position on the edge, or by a
manual request, as bound (R129 to R131). -/
def latches (s : State) (v : VoiceId) : Bool :=
  let vc := s.cfg.voices[v]
  (vc.vstep && stepEdge s && s.flag vc.vtrk (windowAt (tick s).eng.pos s.ctl.bank)) ||
    (vc.vman && s.reqs.req[vc.vtrk])

/-- The rate voice v plays with in the tick that starts in s: the live input if above its minimum, else the last
manual value; the fixed rate; or the pitch rate as that tick has loaded it (R132, R154). -/
def playRate (s : State) (v : VoiceId) : S16 :=
  match s.cfg.voices[v].vrsrc with
  | .live r => if s.cfg.liveMin.toInt < (s.ctl.liveIn[r]).toInt then s.ctl.liveIn[r] else s.ctl.ccRate[r]
  | .fixed r => s.ctl.fixedRate[r]
  | .seq p => (tick s).eng.prate[p]

/-- The click envelope the tick that starts in s uses: its maximum when the click retriggers, else what it was
(R171, R172). -/
def envelopeUsed (s : State) : Nat :=
  if stepEdge s && s.ctl.click && decide ((tick s).eng.pos.toNat % 4 = 0) then 2 ^ s.cfg.clickEnvShift
  else s.eng.clickEnv.toNat

end Sys2Proof.Machine
end

