-- ==== Sys2Proof/Certificates/Slice0/Obligations.lean ====
section
/-! DEFINITION. The statements for the provers. Each docstring names the rule of `spec/` it formalises. A statement
about every state is about every configuration, since State carries one (log 2). -/

open Sys2Proof Sys2Proof.Machine

/-! ## Encoding -/

/-- The example words of R97 decode to the operations they stand for. The encoding is the spec's own decision D2. -/
def Obligations.ExampleWordsDecode : Prop :=
  decode 0x01000000 = .ok .tick ∧ decode 0x10020000 = .ok (.trig 2) ∧
  decode 0x12000100 = .ok (.rate 0 0x0100) ∧ decode 0x1301FFFF = .ok (.live 1 (BitVec.ofInt 16 (-1))) ∧
  decode 0x14000009 = .ok (.tempo 9) ∧ decode 0x1D04001F = .ok (.prd 4 31) ∧
  decode 0x34000024 = .ok (.mnote 0 0x24) ∧ decode 0x35001040 = .ok (.mcc 0 0x10 0x40)

/-- R91 to R94: the decoder gives back every operation that was encoded, with every operand. The encoding is the
spec's own decision D2. -/
def Obligations.DecodeInvertsEncode : Prop := ∀ i : Instr, decode (encode i) = .ok i

/-- R91 to R95: a word that decodes is the encoding of what it decodes to, so each operation has one word. The
encoding is the spec's own decision D2. -/
def Obligations.EncodeInvertsDecode : Prop := ∀ (w : OpWord) (i : Instr), decode w = .ok i → encode i = w

/-- R92, R94, R95: the legal words are exactly those of the opcode map's rows, and no word is in two rows. The
encoding is the spec's own decision D2. -/
def Obligations.LegalWordsAreTheTableRows : Prop :=
  (∀ w : OpWord, (∃ i, decode w = .ok i) ↔ ∃ r ∈ opcodeTable, r.covers w = true) ∧
  ∀ w : OpWord, ∀ r ∈ opcodeTable, ∀ q ∈ opcodeTable, r.covers w = true → q.covers w = true → r = q

/-! ## The step: two agents, one schedule -/

/-- R11, R90, R91: with no strobe due and no command in progress, a step takes the next word off `cmd_word` and is
`exec` of what it decodes to; a strobe that arrives meanwhile (`overlap`) stands on its port, and a line of a trace
(`command`, R97) keeps its slot until its operation is finished. `TICK` is run by a strobe, not by its word. The
schedule and the words as plain data are the model's choice (log 1), and so is refusing the word of `TICK` on the
port (log 6). -/
def Obligations.StepRunsTheDecodedInstruction : Prop :=
  (∀ (s : State) (w : OpWord) (ws : List OpWord) (i : Instr),
    s.cfg.wf = true → s.strobeDue = false → s.prog = [] → s.trace = w :: ws → decode w = .ok i → i ≠ .tick →
    (s.sched = [] → step s = exec i { s with trace := ws }) ∧
    (∀ r, s.sched = .control :: r → step s = exec i { s with trace := ws, sched := r }) ∧
    (∀ r, s.sched = .overlap :: r → step s = exec i { s with trace := ws, sched := r, tickStb := true }) ∧
    (∀ r t, s.sched = .command :: r → exec i { s with trace := ws, sched := r } = .next t →
      step s = .next (if t.prog = [] then t else { t with sched := .command :: r }))) ∧
  ∀ (s : State) (r : List Slot), s.cfg.wf = true → s.strobeDue = false → s.inhibit = false →
    s.sched = .tick :: r → step s = exec .tick { s with sched := r }

/-- R11, R33, R90: while a command is in progress a step runs its next micro-operation and takes no word. The
remaining micro-operations as a list are the spec's decision D34 and the model's log 1. -/
def Obligations.StepRunsTheNextMicroOperation : Prop :=
  ∀ (s : State) (u : MicroOp) (us : List MicroOp),
    s.cfg.wf = true → s.strobeDue = false → s.prog = u :: us →
    (s.sched = [] → step s = runMicro u { s with prog := us }) ∧
    (∀ r, s.sched = .control :: r → step s = runMicro u { s with prog := us, sched := r }) ∧
    (∀ r, s.sched = .overlap :: r → step s = runMicro u { s with prog := us, sched := r, tickStb := true }) ∧
    ∀ r t, s.sched = .command :: r → runMicro u { s with prog := us, sched := r } = .next t →
      step s = .next (if t.prog = [] then t else { t with sched := .command :: r })

/-- R91, R95, U8, U15 (log 5, log 6, log 7): on the control port an illegal word is refused with its reason and so
is the word of `TICK`, which only the strobe can request; an ill-formed configuration is refused whatever is to
come. The refusals are the model's choice, after the spec's own advice. -/
def Obligations.IllegalWordsAndConfigurationsAreRefused : Prop :=
  (∀ (s : State) (w : OpWord) (ws : List OpWord), s.cfg.wf = true → s.quiet → s.prog = [] → s.trace = w :: ws →
    (∀ e, decode w = .error e → step s = .refused (.illegalWord w e)) ∧
    (decode w = .ok .tick → step s = .refused .tickOnPort)) ∧
  ∀ s : State, s.cfg.wf = false → step s = .refused .illFormedConfig

/-- R340: with no strobe and no word the machine waits, unchanged. That waiting is a step to the same state is the
model's choice (log 16). -/
def Obligations.IdleMachineWaits : Prop :=
  ∀ s : State, s.cfg.wf = true → s.quiet → s.prog = [] → s.trace = [] → step s = .next s

/-- R314, R317: a strobe at a boundary is taken before the control port's next move, as one whole tick, and the
command in progress and the words to come are as they were. The order is the spec's own decision D54; the schedule
is the model's log 12. -/
def Obligations.StrobeAtABoundaryRunsAWholeTick : Prop :=
  ∀ (s : State) (r : List Slot), s.cfg.wf = true → s.inhibit = false → s.tickPend = false → s.tickStb = false →
    s.sched = .tick :: r →
    ∃ t, step s = .next t ∧ t = tick { s with sched := r } ∧ t.prog = s.prog ∧ t.trace = s.trace

/-- R265, R313: a strobe that arrives during the gated read of an armed `TRIG` is held in `tick_pend`, the capture
is of the `la` before it, and the tick is the very next step, which clears `tick_pend`. Holding the strobe is the
spec's own decision D34; the schedule is the model's log 12. -/
def Obligations.StrobeUnderTheGateIsHeldAndTakenNext : Prop :=
  ∀ (s : State) (us : List MicroOp) (r : List Slot), s.cfg.wf = true → s.inhibit = false → s.tickPend = false →
    s.tickStb = false → s.prog = .capture :: us → s.sched = .overlap :: r →
    ∃ t, step s = .next t ∧ t.tickPend = true ∧ t.tickStb = false ∧ t.inhibit = false ∧
      t.ctl = { s.ctl with laHold := s.eng.la } ∧ t.eng = s.eng ∧ t.prog = us ∧
      step t = .next (tick { t with tickPend := false })

/-- R265, R313, R314: whatever the control port does while a strobe arrives, the next step is the tick, and the
strobe is then spent. Holding the strobe is the spec's own decision D34; the schedule is the model's log 12. -/
def Obligations.OverlappingStrobeIsNeverLost : Prop :=
  ∀ (s t : State) (r : List Slot), s.cfg.wf = true → s.inhibit = false → s.tickPend = false → s.tickStb = false →
    s.sched = .overlap :: r → step s = .next t →
    step t = .next (tick t.takeStrobe) ∧ (tick t.takeStrobe).strobeDue = false

/-- R37, R186, R260, R315, R316: every step is either the whole `tick` of the state with its strobe spent, which
hands over one sample and leaves all that the control port owns, or a step that leaves all that the tick engine
owns, only raises request flags and hands over nothing. R315 is derived by the spec, and `samples` is the model's
record (log 21). -/
def Obligations.EveryStepIsATickOrLeavesTheEngine : Prop :=
  ∀ s t : State, step s = .next t →
    ((∃ r p b, t = tick { s with sched := r, tickPend := p, tickStb := b }) ∧
      t.samples = t.eng.out :: s.samples ∧ t.ctl = s.ctl ∧ t.pat = s.pat ∧ t.nv = s.nv ∧ t.prog = s.prog ∧
      t.trace = s.trace ∧ t.reqs = Requests.none) ∨
    (t.samples = s.samples ∧ t.eng = s.eng ∧ onlyRaised s t)

/-! ## Invariants -/

/-- The invariant of Sys2Proof/Safety.lean is kept by every step (R21, R23, R24, R63, R76, R218, R264). -/
def Obligations.EveryStepKeepsTheInvariant : Prop := ∀ s t : State, Inv s → step s = .next t → Inv t

/-- The state after reset meets it (R35). The reset values are the spec's decision D35; the reset configuration and
the persisted region are the model's choice (log 2, log 4). -/
def Obligations.ResetMeetsTheInvariant : Prop := Inv State.reset

/-- R310: from a state that meets the invariant no step faults, and the only refusals are of an illegal word and of
the word of `TICK` on the control port. The two faults and the refusals are the model's (log 5, log 6, log 8). -/
def Obligations.NoStepFaults : Prop :=
  ∀ s : State, Inv s → (∀ r, step s ≠ .fault r) ∧
    ∀ q, step s = .refused q → ∃ w ws, s.trace = w :: ws ∧
      ((∃ e, decode w = .error e ∧ q = .illegalWord w e) ∨ (decode w = .ok .tick ∧ q = .tickOnPort))

/-- R218: after any step that ends an operation, `rec = 1` implies `run = 1`. The spec derives it from its decisions
D36 and D40. -/
def Obligations.ArmedImpliesRunningBetweenOperations : Prop :=
  ∀ s t : State, Inv s → step s = .next t → t.prog = [] → t.ctl.recArmed = true → t.ctl.run = true

/-- R354: the persisted run bit, once 0, is 0 after every step, so no `BOOT` restores a running transport from it.
The spec derives it from its decisions D30 and D47. -/
def Obligations.PersistedRunBitStaysClear : Prop :=
  ∀ s t : State, RunBitClear s → step s = .next t → RunBitClear t

/-! ## Reset -/

/-- R35: the reset value of every piece of state, under every configuration, with the persisted region kept. All but
the zero arrays are the spec's own decision D35. -/
def Obligations.ResetLeavesTheStatedValues : Prop :=
  ∀ (c : Cfg) (nv : Memory),
    let s := State.resetWith c nv
    (∀ k x, s.flag k x = false) ∧ (∀ p x, s.pitch p x = 0) ∧
    (∀ v : VoiceId, s.eng.voices[v] = { acc := 0, idx := 0, act := false }) ∧ (∀ p : PairId, s.eng.prate[p] = 0) ∧
    s.eng.pos = 31 ∧ s.eng.elapsed = 0 ∧ s.eng.la = 31 ∧ s.eng.clickAcc = 0 ∧ s.eng.noiseAcc = 0 ∧
    s.eng.clickRate = 0 ∧ s.eng.clickEnv = 0 ∧ s.eng.pulseCnt = 0 ∧ s.eng.clkOut = false ∧ s.eng.out = 128 ∧
    (∀ k : TrackId, s.reqs.req[k] = false) ∧ s.reqs.pulseReq = false ∧ s.reqs.pulseKill = false ∧
    s.ctl.recArmed = false ∧ s.ctl.ovr = false ∧ s.ctl.run = false ∧ s.ctl.dir = false ∧ s.ctl.mix = false ∧
    s.ctl.click = false ∧ s.ctl.bank = 0 ∧ s.ctl.lastSlot = 0 ∧ s.ctl.chan = c.chanDefault ∧ s.ctl.divCnt = 0 ∧
    s.ctl.tempo = 0 ∧ (∀ r : PairId, s.ctl.liveIn[r] = 0 ∧ s.ctl.ccRate[r] = 0 ∧ s.ctl.fixedRate[r] = 0) ∧
    s.ctl.divN = 0 ∧ s.ctl.laHold = 0 ∧ s.ctl.rsp = 0 ∧ s.tickPend = false ∧ s.inhibit = false ∧
    ∀ a, Memory.read s.nv a = Memory.read nv a

/-- Every operation, with every operand, runs as the first one after reset (R94, R310). The reset state's
configuration and its persisted region are the model's choice (log 2, log 4). `TICK` is placed as a strobe, the
others as words on the port (log 6, log 26). -/
def Obligations.EveryOperationRunsFirstAfterReset : Prop :=
  ∀ i : Instr, ∃ t, step (State.reset.withFetchWord 32 (encode i).toNat) = .next t ∧ exec i State.reset = .next t

/-! ## Ownership (R37) -/

/-- R37, R260, R261: no command, and no micro-operation of one, writes what the tick engine owns; a request flag it
touches it raises. -/
def Obligations.ControlPortNeverWritesTheEngine : Prop :=
  (∀ (i : Instr) (s t : State), i ≠ .tick → exec i s = .next t →
    t.eng = s.eng ∧ t.samples = s.samples ∧ t.cfg = s.cfg ∧ onlyRaised s t) ∧
  ∀ (u : MicroOp) (s t : State), runMicro u s = .next t →
    t.eng = s.eng ∧ t.samples = s.samples ∧ t.cfg = s.cfg ∧ onlyRaised s t

/-- R120, R130, R315: `TICK` always completes; it clears every request flag, hands over the sample it wrote, and
leaves all that the control port owns: its registers, the pattern store, every persisted byte, the command in
progress. The spec derives it from the ownership table. -/
def Obligations.TickWritesNothingTheControlPortOwns : Prop :=
  ∀ s : State, ∃ t, exec .tick s = .next t ∧ t.ctl = s.ctl ∧ (∀ k x, t.flag k x = s.flag k x) ∧
    (∀ p x, t.pitch p x = s.pitch p x) ∧ (∀ a, Memory.read t.nv a = Memory.read s.nv a) ∧ t.cfg = s.cfg ∧
    t.prog = s.prog ∧ t.trace = s.trace ∧ t.sched = s.sched ∧ t.inhibit = s.inhibit ∧ t.tickPend = s.tickPend ∧
    t.tickStb = s.tickStb ∧ (∀ k : TrackId, t.reqs.req[k] = false) ∧ t.reqs.pulseReq = false ∧
    t.reqs.pulseKill = false ∧ t.samples = t.eng.out :: s.samples

/-- R37, R260, R323: the control port learns of the tick engine only through the gated read: two states that agree
on what it owns, and on `la` if its next move reads it, give it the same outcome. -/
def Obligations.ControlPortLearnsOnlyTheLookahead : Prop :=
  ∀ s t : State, sameControl s t →
    (s.eng.la = t.eng.la ∨
      ((∀ us, s.prog ≠ .capture :: us) ∧
        (s.prog = [] → ∀ w ws, s.trace = w :: ws → decode w ≠ .ok .rdla))) →
    sameOutcome (controlMove s) (controlMove t)

/-- R70, R269, R345: however ticks fall between the micro-operations of a command that makes no further gated read,
the control port ends where it would have ended without them. -/
def Obligations.TicksInsideACommandLeaveItsResult : Prop :=
  ∀ (l : List Bool) (s : State), s.trace = [] → MicroOp.capture ∉ s.prog →
    sameOutcome (interleave l s) (moves (l.count false) s)

/-- R66, R76, R238, R246: a byte of the persisted region changes only at the address the running micro-operation
stores to; of all operations only `SAVE` stores one itself, at its slot's first byte. The order of the stores is the
spec's decisions D46 and D47. -/
def Obligations.PersistedBytesChangeOnlyWhereStored : Prop :=
  (∀ (u : MicroOp) (s t : State), runMicro u s = .next t →
    ∀ a, u.storeAddr ≠ some a → Memory.read t.nv a = Memory.read s.nv a) ∧
  ∀ (i : Instr) (s t : State), exec i s = .next t →
    ∀ a, (∀ x n, i = .save x → fourArg x = some n → a ≠ s.cfg.hdrSize + n.val * s.cfg.slotSize) →
      Memory.read t.nv a = Memory.read s.nv a

/-! ## TICK: the sequencer (phases 1 and 2) -/

/-- R121: a running tick with no override increments, compares strictly with `tempo`, and advances with an edge or
keeps the position. Increment first, compare second: the spec's own decision D38. -/
def Obligations.RunningTickAdvancesPastTempo : Prop :=
  ∀ s : State, s.ctl.run = true → s.ctl.ovr = false →
    ∃ t, exec .tick s = .next t ∧
      if s.ctl.tempo.toNat < (s.eng.elapsed.toNat + 1) % 2 ^ 16 then
        t.eng.pos.toNat = (s.eng.pos.toNat + 1) % 32 ∧ t.eng.elapsed = 0 ∧ stepEdge s = true
      else
        t.eng.pos = s.eng.pos ∧ t.eng.elapsed.toNat = (s.eng.elapsed.toNat + 1) % 2 ^ 16 ∧ stepEdge s = false

/-- R122: a tick while stopped forces position 31 and elapsed counter 0 whatever the override is, with no edge;
R123: an override while running holds both, with no edge. Force and hold against the override are the spec's own
decision D39. -/
def Obligations.StoppedTickForcesAndOverrideHolds : Prop :=
  ∀ s : State, ∃ t, exec .tick s = .next t ∧
    (s.ctl.run = false → t.eng.pos = 31 ∧ t.eng.elapsed = 0 ∧ stepEdge s = false) ∧
    (s.ctl.run = true → s.ctl.ovr = true →
      t.eng.pos = s.eng.pos ∧ t.eng.elapsed = s.eng.elapsed ∧ stepEdge s = false)

/-- R124: every tick writes the lookahead from the new position and elapsed counter. The halving and the order are
the spec's own decision D38. -/
def Obligations.LookaheadFollowsTheHalfStep : Prop :=
  ∀ s : State, ∃ t, exec .tick s = .next t ∧ t.eng.la.toNat < 32 ∧
    t.eng.la.toNat =
      if s.ctl.tempo.toNat / 2 < t.eng.elapsed.toNat then (t.eng.pos.toNat + 1) % 32 else t.eng.pos.toNat

/-- R126: at every step the position stays, goes on by one modulo 32, or is forced to 31; it decreases only from 31
to 0. The spec derives it from its advance and stop rules. -/
def Obligations.PositionDecreasesOnlyByWraparound : Prop :=
  ∀ s t : State, step s = .next t →
    (t.eng.pos = s.eng.pos ∨ t.eng.pos.toNat = (s.eng.pos.toNat + 1) % 32 ∨ t.eng.pos = 31) ∧
    (t.eng.pos.toNat < s.eng.pos.toNat → s.eng.pos = 31 ∧ t.eng.pos = 0)

/-- R121, R128: from a fresh step the position holds for `tempo` ticks and advances on the next; with `tempo =
0xFFFF` it never advances. The spec derives it from its decision D38. -/
def Obligations.StepPeriodIsTempoPlusOne : Prop :=
  ∀ s : State, s.ctl.run = true → s.ctl.ovr = false →
    (s.eng.elapsed = 0 → s.ctl.tempo.toNat < 65535 →
      (∀ j, j ≤ s.ctl.tempo.toNat →
        (ticks j s).eng.pos = s.eng.pos ∧ (ticks j s).eng.elapsed.toNat = j) ∧
      (ticks (s.ctl.tempo.toNat + 1) s).eng.pos.toNat = (s.eng.pos.toNat + 1) % 32 ∧
      (ticks (s.ctl.tempo.toNat + 1) s).eng.elapsed = 0) ∧
    (s.ctl.tempo = 0xFFFF → ∀ n, (ticks n s).eng.pos = s.eng.pos)

/-- R127: the three sources of the output pulse, the kill last; the line is high for the loaded count; both pulse
flags are consumed. The pulse flags and the width in ticks are the spec's own decisions D18 and D32. -/
def Obligations.TickMakesTheOutputPulse : Prop :=
  ∀ s : State, ∃ t, exec .tick s = .next t ∧
    let c1 : U8 := if stepEdge s then s.cfg.pulseTicks else s.eng.pulseCnt
    let c2 : U8 := if s.reqs.pulseReq then s.cfg.pulseTicks else c1
    let c3 : U8 := if s.reqs.pulseKill then 0 else c2
    t.reqs.pulseReq = false ∧ t.reqs.pulseKill = false ∧ t.eng.clkOut = decide (0 < c3.toNat) ∧
      t.eng.pulseCnt.toNat = c3.toNat - 1

/-! ## TICK: the voices (phases 3 to 5) -/

/-- R129 to R131, R150 to R154: a voice fires by its track's step flag on the edge or by a manual request, as bound
(`latches`); it then plays from accumulator 0. A playing voice advances by the rate its source gives (`playRate`: a
`SEQ` voice by the rate just loaded) and finishes past its last table index; any other voice is not touched. That a
latching tick already advances is the spec's own decision D37. -/
def Obligations.TickPlaysEachVoice : Prop :=
  ∀ (s : State) (v : VoiceId), ∃ t, exec .tick s = .next t ∧
    let acc : U32 := BitVec.ofInt 32
      ((if latches s v then 0 else ((s.eng.voices[v]).acc.toNat : Int)) + (playRate s v).toInt)
    let idx : Nat := acc.toNat / 2 ^ s.cfg.fpShift
    if latches s v = true ∨ (s.eng.voices[v]).act = true then
      if (s.cfg.voices[v]).len.toNat < idx then t.eng.voices[v] = { acc := 0, idx := 0, act := false }
      else t.eng.voices[v] = { acc := acc, idx := BitVec.ofNat 32 idx, act := true }
    else t.eng.voices[v] = s.eng.voices[v]

/-- R132: the rate of PitchVoice p is loaded from its sequence at the playing index when a voice bound to it fires,
and kept otherwise. The load on a manual latch is the spec's own decision D49. -/
def Obligations.TickLoadsThePitchRates : Prop :=
  ∀ (s : State) (p : PairId), ∃ t, exec .tick s = .next t ∧
    ((∃ v : VoiceId, (s.cfg.voices[v]).vrsrc = .seq p ∧ latches s v = true) →
      t.eng.prate[p] = s.pitch p (windowAt t.eng.pos s.ctl.bank)) ∧
    ((∀ v : VoiceId, (s.cfg.voices[v]).vrsrc = .seq p → latches s v = false) → t.eng.prate[p] = s.eng.prate[p])

/-- R157: a voice that latches in a tick, by a request or by the edge, running or stopped, trigger voice or
PitchVoice, and that plays one table entry a tick without latching again, has index j+1 after the j-th tick from it
(from 0), is still on after `LEN` ticks, and is off with accumulator and index 0 after one more. The spec derives it
from its decision D37. -/
def Obligations.VoiceUnlatchesAtItsTableLength : Prop :=
  ∀ (s : State) (v : VoiceId), s.cfg.wf = true → latches s v = true →
    (∀ j, 0 < j → j ≤ ((s.cfg.voices[v]).len).toNat → latches (ticks j s) v = false) →
    (∀ j, j ≤ ((s.cfg.voices[v]).len).toNat → (playRate (ticks j s) v).toInt = 2 ^ s.cfg.fpShift) →
    (∀ j, j < ((s.cfg.voices[v]).len).toNat →
      ((ticks (j + 1) s).eng.voices[v]).act = true ∧ ((ticks (j + 1) s).eng.voices[v]).idx.toNat = j + 1) ∧
    (ticks (((s.cfg.voices[v]).len).toNat + 1) s).eng.voices[v] = { acc := 0, idx := 0, act := false }

/-! ## TICK: click, mixer, output (phase 6) -/

/-- R171 to R174: the click retriggers on an edge to every 4th step while the click bit is on, with the tone of step
0, of an every-8th or of an every-4th step in that priority; the envelope is decremented last; click and noise
accumulators advance every tick. The tones, the envelope and the enable are the spec's own decisions D8 to D11 and
D51. -/
def Obligations.TickRunsTheClickAndTheNoise : Prop :=
  ∀ s : State, ∃ t, exec .tick s = .next t ∧
    let hit := stepEdge s && s.ctl.click && decide (t.eng.pos.toNat % 4 = 0)
    let env : U16 := if hit then BitVec.ofNat 16 (2 ^ s.cfg.clickEnvShift) else s.eng.clickEnv
    t.eng.clickRate = (if hit then
        if t.eng.pos.toNat = 0 then s.cfg.toneBar
        else if t.eng.pos.toNat % 8 = 0 then s.cfg.tone8 else s.cfg.tone4
      else s.eng.clickRate) ∧
    t.eng.clickEnv.toNat = env.toNat - 1 ∧
    t.eng.clickAcc = BitVec.ofInt 32 ((s.eng.clickAcc.toNat : Int) + t.eng.clickRate.toInt) ∧
    t.eng.noiseAcc = BitVec.ofInt 32 ((s.eng.noiseAcc.toNat : Int) + s.cfg.noiseRate.toInt)

/-- R155, R156, R173, R175, R178, R184, R185, R187: the sample of plain mode, from the voices and the click
accumulator the tick leaves and the envelope it used. A voice that is on reads its table at its index, or at the
mirror of it in reverse-play, and one that is off adds 0; the click reads its table at its index modulo the table's
size; while the mixed value is in -255..510 one reflection suffices. Levels, click table, average and truncation are
the spec's own decisions D8, D10, D12, D13 and D48. -/
def Obligations.PlainModeSample : Prop :=
  ∀ s : State, s.cfg.wf = true → s.ctl.mix = false → ∃ t, exec .tick s = .next t ∧
    ∃ (sv : VoiceId → Int) (cRaw : U8),
      (∀ v : VoiceId,
        let vc := s.cfg.voices[v]
        let vo := t.eng.voices[v]
        if vo.act then
          ∃ byte, vc.tab[if s.ctl.dir then vc.len.toNat - vo.idx.toNat else vo.idx.toNat]? = some byte ∧
            sv v = (byte.toNat : Int) - 128
        else sv v = 0) ∧
      s.cfg.clickTab[(t.eng.clickAcc.toNat / 2 ^ s.cfg.fpShift) % s.cfg.clickTab.length]? = some cRaw ∧
      let cS := (((cRaw.toNat : Int) - 128) * (envelopeUsed s : Int)) / 2 ^ s.cfg.clickEnvShift
      let pre := 128 + (sv 0 + sv 1 + sv 2 + sv 3 + sv 4 + sv 5 + cS) / 2 ^ s.cfg.mixShift
      let post := if 255 < pre then 510 - pre else if pre < 0 then -pre else pre
      (t.eng.out.toNat : Int) = post % 256 ∧ (-255 ≤ pre → pre ≤ 510 → (t.eng.out.toNat : Int) = post)

/-- R155, R156, R173 to R175, R179 to R181, R184, R187: the sample of noise-accent mode: the centred voice term,
forced to 128 when no voice is latched, XORed on its 16-bit pattern with the noise blend. The blend is the scaled
AND of the click's and the noise's table bytes under the reference function, another function of the same three
values under another, and 0 when the envelope is. Levels, tables, blend, forced silence and truncation are the
spec's own decisions D8, D11, D12, D14, D48 and D50; another blend is the model's opaque function (log 3). -/
def Obligations.AccentModeSample : Prop :=
  ∀ s : State, s.cfg.wf = true → s.ctl.mix = true → ∃ t, exec .tick s = .next t ∧
    ∃ (sv : VoiceId → Int) (cRaw nRaw blend : U8) (vt : Int),
      (∀ v : VoiceId,
        let vc := s.cfg.voices[v]
        let vo := t.eng.voices[v]
        if vo.act then
          ∃ byte, vc.tab[if s.ctl.dir then vc.len.toNat - vo.idx.toNat else vo.idx.toNat]? = some byte ∧
            sv v = (byte.toNat : Int) - 128
        else sv v = 0) ∧
      s.cfg.clickTab[(t.eng.clickAcc.toNat / 2 ^ s.cfg.fpShift) % s.cfg.clickTab.length]? = some cRaw ∧
      s.cfg.clickTab[(t.eng.noiseAcc.toNat / 2 ^ s.cfg.fpShift) % s.cfg.clickTab.length]? = some nRaw ∧
      (s.cfg.noiseBlend = .reference → envelopeUsed s ≤ 2 ^ s.cfg.clickEnvShift →
        blend.toNat = ((cRaw &&& nRaw).toNat * envelopeUsed s) / 2 ^ s.cfg.clickEnvShift) ∧
      (∀ n, s.cfg.noiseBlend = .other n → envelopeUsed s ≠ 0 →
        blend = Config.otherBlend n cRaw nRaw (envelopeUsed s)) ∧
      (envelopeUsed s = 0 → blend = 0) ∧
      ((∀ v : VoiceId, (t.eng.voices[v]).act = false) → vt = 128) ∧
      ((∃ v : VoiceId, (t.eng.voices[v]).act = true) →
        vt = 128 + (sv 0 + sv 1 + sv 2 + sv 3 + sv 4 + sv 5) / 2 ^ s.cfg.mixShift) ∧
      let pre := (BitVec.ofInt 16 vt ^^^ blend.setWidth 16).toInt
      let post := if 255 < pre then 510 - pre else if pre < 0 then -pre else pre
      (t.eng.out.toNat : Int) = post % 256

/-- R178 to R181: in either mode, under every configuration and every blend function, a tick that leaves no voice
latched and uses a click envelope of 0 gives exactly the mid level. The levels and the blend are the spec's own
decisions D12 and D14; that another blend is 0 at envelope 0 is the spec's condition (log 3). -/
def Obligations.SilenceIsTheMidLevel : Prop :=
  ∀ s : State, s.eng.clickEnv = 0 → clickHit (stepEdge s) s.ctl.click (tick s).eng.pos = false →
    (∀ v : VoiceId, ((tick s).eng.voices[v]).act = false) →
    ∃ t, exec .tick s = .next t ∧ t.eng.out = 128 ∧ t.samples = 128 :: s.samples

/-- R184: above 255 the mixed value is reflected once to `2 * 255 - pre`, below 0 to `-pre`, and kept otherwise. -/
def Obligations.FoldBackReflectsOnce : Prop :=
  ∀ pre : Int,
    (255 < pre → foldBack pre = 2 * 255 - pre) ∧ (pre < 0 → foldBack pre = -pre) ∧
    (0 ≤ pre → pre ≤ 255 → foldBack pre = pre)

/-! ## TRIG and recording -/

/-- R201 u1: `TRIG k` completes its first micro-operation for every argument: it raises `req[k]` and leaves the
recording still to run when armed; outside 0..3 nothing changes. The order of the micro-operations is the spec's own
decision D41. -/
def Obligations.TrigRaisesItsRequest : Prop :=
  ∀ (a : U8) (s : State),
    (∀ k : TrackId, a.toNat = k.val → exec (.trig a) s = .next { s with
      reqs := { s.reqs with req := s.reqs.req.set k.val true k.isLt }
      prog := (if s.ctl.recArmed then
          [.capture, .recordFlag k s.ctl.bank] ++
            ((s.cfg.trkLive[k]).toList.map fun r => MicroOp.recordRate r s.ctl.bank)
        else []) ++ s.prog }) ∧
    (4 ≤ a.toNat → exec (.trig a) s = .next s)

/-- R201: an armed `TRIG k`, run to its end with no tick between, raises the request, captures `la`, sets the flag
of track k at `la + BANK_OFF[bank]`, and for a live track stores the current rate at the same index; nothing else
changes. The sequence and the rate are the spec's own decision D41. -/
def Obligations.ArmedTrigRecordsAtTheLookahead : Prop :=
  ∀ (a : U8) (k : TrackId) (s : State), a.toNat = k.val → s.ctl.recArmed = true → s.prog = [] →
    s.eng.la.toNat < 32 → s.tickStb = false →
    ∃ t, perform (.trig a) (2 + (s.cfg.trkLive[k]).toList.length) s = .next t ∧
      t.reqs = { s.reqs with req := s.reqs.req.set k.val true k.isLt } ∧
      t.ctl = { s.ctl with laHold := s.eng.la } ∧ t.prog = [] ∧ t.eng = s.eng ∧ t.inhibit = false ∧
      t.tickPend = s.tickPend ∧ t.tickStb = false ∧ (∀ b, Memory.read t.nv b = Memory.read s.nv b) ∧
      (∀ j x, t.flag j x =
        if j = k ∧ x.val = s.eng.la.toNat + windowFirst s.ctl.bank then true else s.flag j x) ∧
      ∀ p x, t.pitch p x =
        if s.cfg.trkLive[k] = some p ∧ x.val = s.eng.la.toNat + windowFirst s.ctl.bank then
          if s.cfg.liveMin.toInt < (s.ctl.liveIn[p]).toInt then s.ctl.liveIn[p] else s.ctl.ccRate[p]
        else s.pitch p x

/-- R217: whatever tick came last, the flag an armed `TRIG` then records is at its position, or at the next one
modulo 32 when the elapsed counter is past half the tempo, and no other flag changes. The spec derives it from its
rules of TRIG and of the lookahead. -/
def Obligations.RecordedFlagLandsAtPositionOrNext : Prop :=
  ∀ (s : State) (a : U8) (k : TrackId), a.toNat = k.val → s.ctl.recArmed = true → s.prog = [] →
    ∃ t, perform (.trig a) 2 (tick s) = .next t ∧
      let n := (tick s).eng
      let i := if s.ctl.tempo.toNat / 2 < n.elapsed.toNat then (n.pos.toNat + 1) % 32 else n.pos.toNat
      ∀ j x, t.flag j x = if j = k ∧ x.val = i + windowFirst s.ctl.bank then true else s.flag j x

/-! ## The commands of one micro-operation -/

/-- R202, R203, R204: `BANK`, `RATE` and `LIVE` write the one register their argument names and nothing else;
outside their legal sets they change nothing. -/
def Obligations.BankRateAndLiveWriteOneRegister : Prop :=
  (∀ (a : U8) (s : State), exec (.bank a) s =
    .next (if a.toNat < 4 then { s with ctl := { s.ctl with bank := BitVec.ofNat 2 a.toNat } } else s)) ∧
  (∀ (a : U8) (d : S16) (s : State), exec (.rate a d) s = .next (
    if a.toNat = 0 then { s with ctl := { s.ctl with ccRate := s.ctl.ccRate.set 0 d } }
    else if a.toNat = 1 then { s with ctl := { s.ctl with ccRate := s.ctl.ccRate.set 1 d } }
    else if a.toNat = 2 then { s with ctl := { s.ctl with fixedRate := s.ctl.fixedRate.set 0 d } }
    else if a.toNat = 3 then { s with ctl := { s.ctl with fixedRate := s.ctl.fixedRate.set 1 d } }
    else s)) ∧
  ∀ (a : U8) (d : S16) (s : State), exec (.live a d) s = .next (
    if a.toNat = 0 then { s with ctl := { s.ctl with liveIn := s.ctl.liveIn.set 0 d } }
    else if a.toNat = 1 then { s with ctl := { s.ctl with liveIn := s.ctl.liveIn.set 1 d } }
    else s)

/-- R205, R215, R216: `TEMPO`, `CHAN` and `DIV` write their register with any value and nothing else; `DIV` leaves
`div_cnt`. -/
def Obligations.TempoChanAndDivWriteTheirRegister : Prop :=
  (∀ (d : U16) (s : State), exec (.tempo d) s = .next { s with ctl := { s.ctl with tempo := d } }) ∧
  (∀ (a : U8) (s : State), exec (.chan a) s = .next { s with ctl := { s.ctl with chan := a } }) ∧
  ∀ (a : U8) (s : State), exec (.div a) s = .next { s with ctl := { s.ctl with divN := a } }

/-- R206, R207, R212: `RUN` stops, starts or toggles the transport unless recording is armed, which forces it to
run; `REC` disarms, arms or toggles recording, and arming starts the transport; modes above 2 change nothing.
`CLICK` toggles its bit. The force and the click command are the spec's own decisions D40 and D51. -/
def Obligations.RunRecAndClickWriteTheirBits : Prop :=
  (∀ (a : U8) (s : State), exec (.run a) s = .next (
    if a.toNat = 0 then { s with ctl := { s.ctl with run := s.ctl.recArmed } }
    else if a.toNat = 1 then { s with ctl := { s.ctl with run := true } }
    else if a.toNat = 2 then { s with ctl := { s.ctl with run := !s.ctl.run || s.ctl.recArmed } }
    else s)) ∧
  (∀ (a : U8) (s : State), exec (.record a) s = .next (
    if a.toNat = 0 then { s with ctl := { s.ctl with recArmed := false } }
    else if a.toNat = 1 then { s with ctl := { s.ctl with recArmed := true, run := true } }
    else if a.toNat = 2 then { s with ctl := { s.ctl with
      recArmed := !s.ctl.recArmed, run := s.ctl.run || !s.ctl.recArmed } }
    else s)) ∧
  ∀ s : State, exec .click s = .next { s with ctl := { s.ctl with click := !s.ctl.click } }

/-- R210, R211, R213: `DIR` and `MIX` toggle their bit; `OVR` sets or clears the override, and changes nothing
outside 0, 1. -/
def Obligations.DirMixAndOvrWriteTheirBit : Prop :=
  (∀ s : State, exec .dir s = .next { s with ctl := { s.ctl with dir := !s.ctl.dir } }) ∧
  (∀ s : State, exec .mix s = .next { s with ctl := { s.ctl with mix := !s.ctl.mix } }) ∧
  ∀ (a : U8) (s : State), exec (.ovr a) s = .next (
    if a.toNat = 0 then { s with ctl := { s.ctl with ovr := false } }
    else if a.toNat = 1 then { s with ctl := { s.ctl with ovr := true } } else s)

/-- R263, R265: `RDLA` captures all of `la` in `la_hold` and `rsp`, leaves the gate open, and changes nothing else
but that a strobe which arrived meanwhile is now held. The held strobe is the spec's own decision D34. -/
def Obligations.RdlaReadsTheLookahead : Prop :=
  ∀ s : State, exec .rdla s = .next { s with
    ctl := { s.ctl with laHold := s.eng.la, rsp := s.eng.la }
    inhibit := false
    tickPend := s.tickPend || s.tickStb
    tickStb := false }

/-- R214: `PRD` reads one element of the pattern store into `rsp`, a flag zero-extended and a pitch entry's 16-bit
pattern, and changes nothing else; outside its legal operands it changes nothing. The command is the spec's own
decision D53. -/
def Obligations.PrdReadsOneElement : Prop :=
  ∀ (a : U8) (d : U16) (s : State),
    (∀ (k : TrackId) (x : PatIx), a.toNat = k.val → d.toNat = x.val → exec (.prd a d) s =
      .next { s with ctl := { s.ctl with rsp := if s.flag k x then 1 else 0 } }) ∧
    (∀ (p : PairId) (x : PatIx), a.toNat = 4 + p.val → d.toNat = x.val → exec (.prd a d) s =
      .next { s with ctl := { s.ctl with rsp := s.pitch p x } }) ∧
    (6 ≤ a.toNat ∨ 128 ≤ d.toNat → exec (.prd a d) s = .next s)

/-! ## ERASE and the codec, run to their ends -/

/-- R62, R208: `ERASE` runs 129 micro-operations; it clears the four flags of every step of the current bank's
window (0..31, 31..62, 63..94, 95..126), starts the transport, disarms recording, and changes nothing else: no other
flag, no pitch entry, no persisted byte. That the pitch arrays stay is the spec's own decision D42. -/
def Obligations.EraseClearsTheWindow : Prop :=
  ∀ s : State, s.prog = [] →
    let window := fun x : PatIx =>
      (s.ctl.bank = 0 ∧ x.val ≤ 31) ∨ (s.ctl.bank = 1 ∧ 31 ≤ x.val ∧ x.val ≤ 62) ∨
        (s.ctl.bank = 2 ∧ 63 ≤ x.val ∧ x.val ≤ 94) ∨ (s.ctl.bank = 3 ∧ 95 ≤ x.val ∧ x.val ≤ 126)
    ∃ t, perform .erase 128 s = .next t ∧ t.prog = [] ∧
      (∀ k x, window x → t.flag k x = false) ∧ (∀ k x, ¬ window x → t.flag k x = s.flag k x) ∧
      (∀ p x, t.pitch p x = s.pitch p x) ∧ t.ctl = { s.ctl with run := true, recArmed := false } ∧
      t.eng = s.eng ∧ t.reqs = s.reqs ∧ t.trace = s.trace ∧ ∀ a, Memory.read t.nv a = Memory.read s.nv a

/-- R232, R235, R236, R238: `SAVE s` runs 85 micro-operations; it writes the packed flags and the compressed pitch
blocks of the current window at the slot's base `HDR_SIZE + s * SLOT_SIZE`, each pitch value shifted and clamped to
-128..127, the settings byte with its persisted run bit kept and click 0, the bank, the channel and the slot number;
it remembers the slot, and changes no other persisted byte, no array and no other register. A slot outside 0..3
changes nothing. Bit orders, the kept run bit and the order of the stores are the spec's own decisions D28 to D30
and D46. -/
def Obligations.SaveWritesTheRecord : Prop :=
  (∀ (a : U8) (s : State), 4 ≤ a.toNat → exec (.save a) s = .next s) ∧
  ∀ (a : U8) (n : Fin 4) (s : State), s.cfg.wf = true → Memory.wf s.nv = true → s.prog = [] → a.toNat = n.val →
    let base := s.cfg.hdrSize + n.val * s.cfg.slotSize
    ∃ t, perform (.save a) 84 s = .next t ∧ t.prog = [] ∧
      (∀ (j : Fin 16) (k : TrackId) (x : PatIx),
        (x.val = windowFirst s.ctl.bank + 2 * j.val →
          (Memory.read t.nv (base + j.val)).getLsbD k.val = s.flag k x) ∧
        (x.val = windowFirst s.ctl.bank + 2 * j.val + 1 →
          (Memory.read t.nv (base + j.val)).getLsbD (4 + k.val) = s.flag k x)) ∧
      (∀ (p : PairId) (i : Fin 32) (x : PatIx), x.val = windowFirst s.ctl.bank + i.val →
        let q := (s.pitch p x).toInt / 2 ^ s.cfg.pitchShift
        (Memory.read t.nv (base + 16 + 32 * p.val + i.val)).toInt =
          if q < -128 then -128 else if 127 < q then 127 else q) ∧
      (Memory.read t.nv 3).toNat = ((Memory.read s.nv 3).getLsbD 0).toNat + 2 * s.ctl.dir.toNat +
        4 * s.ctl.mix.toNat ∧
      (Memory.read t.nv 4).toNat = s.ctl.bank.toNat ∧ Memory.read t.nv 5 = s.ctl.chan ∧
      (Memory.read t.nv 2).toNat = n.val ∧
      (∀ b, (b < base ∨ base + 80 ≤ b) → b ≠ 2 → b ≠ 3 → b ≠ 4 → b ≠ 5 →
        Memory.read t.nv b = Memory.read s.nv b) ∧
      t.ctl = { s.ctl with lastSlot := BitVec.ofNat 2 n.val } ∧ t.pat = s.pat ∧ t.eng = s.eng ∧ t.reqs = s.reqs ∧
      t.trace = s.trace

/-- R241: a second `SAVE` of the same slot leaves the persisted region as the first did. The spec derives it from
its rule of SAVE. -/
def Obligations.SavingTwiceStoresTheSameBytes : Prop :=
  ∀ (a : U8) (n : Fin 4) (s : State), s.cfg.wf = true → Memory.wf s.nv = true → s.prog = [] → a.toNat = n.val →
    ∃ t u, perform (.save a) 84 s = .next t ∧ perform (.save a) 84 t = .next u ∧ u.nv = t.nv

/-- R232, R235, R237, R239, R242, R243: `LOAD s` runs 272 micro-operations; the current window's flags and pitch
entries become those of the record at `HDR_SIZE + s * SLOT_SIZE`, each pitch byte read signed and shifted back,
everything outside the window stays, and no register and no persisted byte changes. A slot outside 0..3 changes
nothing. The order of the micro-operations is the spec's own decision D46. -/
def Obligations.LoadReplacesTheWindow : Prop :=
  (∀ (a : U8) (s : State), 4 ≤ a.toNat → exec (.load a) s = .next s) ∧
  ∀ (a : U8) (n : Fin 4) (s : State), s.cfg.wf = true → s.prog = [] → a.toNat = n.val →
    let base := s.cfg.hdrSize + n.val * s.cfg.slotSize
    ∃ t, perform (.load a) 271 s = .next t ∧ t.prog = [] ∧
      (∀ (j : Fin 16) (k : TrackId) (x : PatIx),
        (x.val = windowFirst s.ctl.bank + 2 * j.val →
          t.flag k x = (Memory.read s.nv (base + j.val)).getLsbD k.val) ∧
        (x.val = windowFirst s.ctl.bank + 2 * j.val + 1 →
          t.flag k x = (Memory.read s.nv (base + j.val)).getLsbD (4 + k.val))) ∧
      (∀ (p : PairId) (i : Fin 32) (x : PatIx), x.val = windowFirst s.ctl.bank + i.val →
        (t.pitch p x).toInt =
          (Memory.read s.nv (base + 16 + 32 * p.val + i.val)).toInt * 2 ^ s.cfg.pitchShift) ∧
      (∀ k x, ¬ inWindow s.ctl.bank x → t.flag k x = s.flag k x) ∧
      (∀ p x, ¬ inWindow s.ctl.bank x → t.pitch p x = s.pitch p x) ∧
      t.ctl = s.ctl ∧ t.eng = s.eng ∧ t.reqs = s.reqs ∧ t.trace = s.trace ∧
      ∀ b, Memory.read t.nv b = Memory.read s.nv b

/-- R240: `SAVE s`, then `LOAD s` in the same bank from any state with that region, gives back every flag of the
window, and every pitch value shifted, clamped to -128..127 and shifted back; a value the clamp does not change
differs from what comes back by less than the compression step. The spec derives it from its codec rules. -/
def Obligations.SaveThenLoadReturnsThePattern : Prop :=
  ∀ (a : U8) (n : Fin 4) (s t u : State), s.cfg.wf = true → Memory.wf s.nv = true → s.prog = [] →
    a.toNat = n.val → perform (.save a) 84 s = .next t → u.cfg = t.cfg → u.nv = t.nv →
    u.ctl.bank = t.ctl.bank → u.prog = [] →
    ∃ v, perform (.load a) 271 u = .next v ∧
      (∀ k x, inWindow s.ctl.bank x → v.flag k x = s.flag k x) ∧
      ∀ p x, inWindow s.ctl.bank x →
        let q := (s.pitch p x).toInt / 2 ^ s.cfg.pitchShift
        (v.pitch p x).toInt =
            (if q < -128 then -128 else if 127 < q then 127 else q) * 2 ^ s.cfg.pitchShift ∧
          (-128 * 2 ^ s.cfg.pitchShift ≤ (s.pitch p x).toInt →
            (s.pitch p x).toInt < 128 * 2 ^ s.cfg.pitchShift →
            (v.pitch p x).toInt ≤ (s.pitch p x).toInt ∧
              (s.pitch p x).toInt < (v.pitch p x).toInt + 2 ^ s.cfg.pitchShift)

/-- R245, R247: `BOOT` on a region with a good marker restores the settings it holds, keeps the transport running
while armed, and changes no persisted byte, no array and no other register. What is restored is the spec's own
decision D36. -/
def Obligations.BootRestoresAGoodRegion : Prop :=
  ∀ s : State, s.cfg.wf = true → s.prog = [] → Memory.read s.nv 0 = s.cfg.magic0 →
    Memory.read s.nv 1 = s.cfg.magic1 →
    ∃ t, perform .boot 5 s = .next t ∧ t.prog = [] ∧
      t.ctl = { s.ctl with
        lastSlot := BitVec.ofNat 2 ((Memory.read s.nv 2).toNat % 4)
        run := (Memory.read s.nv 3).getLsbD 0 || s.ctl.recArmed
        dir := (Memory.read s.nv 3).getLsbD 1
        mix := (Memory.read s.nv 3).getLsbD 2
        click := (Memory.read s.nv 3).getLsbD 3
        bank := BitVec.ofNat 2 ((Memory.read s.nv 4).toNat % 4)
        chan := Memory.read s.nv 5 } ∧
      t.pat = s.pat ∧ t.eng = s.eng ∧ t.reqs = s.reqs ∧ t.trace = s.trace ∧
      ∀ b, Memory.read t.nv b = Memory.read s.nv b

/-- R232, R245 to R247: `BOOT` on a region with a wrong marker writes the documented default (the marker, the
default channel, zeros in every other byte) and restores the settings from it; no byte beyond the region changes.
The default and its order are the spec's own decisions D36 and D47. -/
def Obligations.BootResetsABadRegion : Prop :=
  ∀ s : State, s.cfg.wf = true → Memory.wf s.nv = true → s.prog = [] →
    (Memory.read s.nv 0 ≠ s.cfg.magic0 ∨ Memory.read s.nv 1 ≠ s.cfg.magic1) →
    let size := s.cfg.hdrSize + 4 * s.cfg.slotSize
    ∃ t, perform .boot (size + 6) s = .next t ∧ t.prog = [] ∧
      Memory.read t.nv 0 = s.cfg.magic0 ∧ Memory.read t.nv 1 = s.cfg.magic1 ∧
      Memory.read t.nv 5 = s.cfg.chanDefault ∧
      (∀ b, 2 ≤ b → b < size → b ≠ 5 → Memory.read t.nv b = 0) ∧
      (∀ b, size ≤ b → Memory.read t.nv b = Memory.read s.nv b) ∧
      t.ctl = { s.ctl with
        lastSlot := 0, run := s.ctl.recArmed, dir := false, mix := false, click := false, bank := 0
        chan := s.cfg.chanDefault } ∧
      t.pat = s.pat ∧ t.eng = s.eng ∧ t.reqs = s.reqs ∧ t.trace = s.trace

/-- `SAVE`, `LOAD`, `ERASE` and `BOOT` answer a next state for every argument, and outside 0..3 `SAVE` and `LOAD`
change nothing (R208, R231, R238, R239, R245). Of a command taken it says what is put in front of `prog`: for
`SAVE`, `LOAD` and `ERASE` how many entries, for `BOOT` the read of the second marker byte with the first byte it
has read; their effects are other statements. The order of the micro-operations of `SAVE` and `LOAD` is the spec's
own decision D46; the list `prog` and its lengths are the model's choice (log 1): 128 and 271 are the counts 129 and
272 of R345 less the first, and 83 is one fewer than the 84 that R238 and R345 leave, because the entry
`readSettings` stands for u81 and u82 until u81 has run and puts u82 into the list. -/
def Obligations.CodecCommandsStart : Prop :=
  ∀ s : State, s.cfg.wf = true →
    (∀ a : U8, ∃ t, exec (.save a) s = .next t ∧ (4 ≤ a.toNat → t = s) ∧
      (a.toNat < 4 → t.prog.length = 83 + s.prog.length)) ∧
    (∀ a : U8, ∃ t, exec (.load a) s = .next t ∧ (4 ≤ a.toNat → t = s) ∧
      (a.toNat < 4 → t.prog.length = 271 + s.prog.length)) ∧
    (∃ t, exec .erase s = .next t ∧ t.prog.length = 128 + s.prog.length) ∧
    ∃ t, exec .boot s = .next t ∧ t.prog = .bootMagic1 (Memory.read s.nv 0) :: s.prog

/-! ## External messages -/

/-- R283 to R285: the transport messages, with the configuration's automatic start, stop and resume. The switches
and the kill flag are the spec's own decisions D24 and D32. -/
def Obligations.TransportMessages : Prop :=
  (∀ s : State, exec .mstart s = .next { s with ctl := { s.ctl with
    divCnt := 0, run := if s.cfg.autoStart then true else s.ctl.run } }) ∧
  (∀ s : State, exec .mstop s = .next { s with
    ctl := { s.ctl with
      divCnt := 0
      run := if s.cfg.autoStop = true ∧ s.ctl.recArmed = false then false else s.ctl.run }
    reqs := { s.reqs with pulseKill := true } }) ∧
  ∀ s : State, exec .mcont s = .next { s with ctl := { s.ctl with
    run := if s.cfg.autoCont then true else s.ctl.run } }

/-- R281: `MCLK` changes nothing while running; while stopped it counts, and on reaching N starts the count again
and asks for a pulse. How the divider counts is the spec's own decision D45. -/
def Obligations.ClockMessageCountsWhileStopped : Prop :=
  ∀ s : State,
    (s.ctl.run = true → exec .mclk s = .next s) ∧
    (s.ctl.run = false → exec .mclk s = .next (
      if s.ctl.divN.toNat ≤ (s.ctl.divCnt.toNat + 1) % 256 then
        { s with ctl := { s.ctl with divCnt := 0 }, reqs := { s.reqs with pulseReq := true } }
      else { s with ctl := { s.ctl with divCnt := s.ctl.divCnt + 1 } }))

/-- R281, R292: stopped and from a count of 0, the first N-1 clock messages only count and the N-th asks for a pulse
and starts the count again. How the divider counts is the spec's own decision D45. -/
def Obligations.EveryNthClockMessageHits : Prop :=
  ∀ s : State, s.ctl.run = false → s.ctl.divCnt = 0 → 0 < s.ctl.divN.toNat →
    (∀ j, j < s.ctl.divN.toNat → repeated .mclk j s =
      .next { s with ctl := { s.ctl with divCnt := BitVec.ofNat 8 j } }) ∧
    repeated .mclk s.ctl.divN.toNat s = .next { s with reqs := { s.reqs with pulseReq := true } }

/-- R286 to R288: a note message on another channel changes nothing; on the module's channel it performs the `TRIG`,
`BANK`, `DIR` or `MIX` its identifier maps to, and nothing for any other identifier. It completes in every case. -/
def Obligations.NoteMessagePerformsItsOperation : Prop :=
  ∀ (ch id : U8) (s : State), s.cfg.wf = true →
    (∃ t, exec (.mnote ch id) s = .next t) ∧
    (ch ≠ s.ctl.chan → exec (.mnote ch id) s = .next s) ∧
    (ch = s.ctl.chan →
      (∀ k : TrackId, id = s.cfg.noteTrig[k] →
        exec (.mnote ch id) s = exec (.trig (BitVec.ofNat 8 k.val)) s) ∧
      (∀ b : Fin 4, id = s.cfg.noteBank[b] →
        exec (.mnote ch id) s = exec (.bank (BitVec.ofNat 8 b.val)) s) ∧
      (id = s.cfg.noteDir → exec (.mnote ch id) s = exec .dir s) ∧
      (id = s.cfg.noteMix → exec (.mnote ch id) s = exec .mix s) ∧
      ((∀ k : Fin 4, id ≠ s.cfg.noteTrig[k] ∧ id ≠ s.cfg.noteBank[k]) → id ≠ s.cfg.noteDir →
        id ≠ s.cfg.noteMix → exec (.mnote ch id) s = .next s))

/-- R286, R289: a control message on another channel changes nothing; on the module's channel it performs the `RATE`
its identifier maps to with the mapped value, `value << 4` under the reference mapping, and nothing for any other
identifier. It completes in every case. The mapping of the value is the spec's own decision D26. -/
def Obligations.ControlMessageSetsItsRate : Prop :=
  ∀ (ch id value : U8) (s : State), s.cfg.wf = true →
    (∃ t, exec (.mcc ch id value) s = .next t) ∧
    (ch ≠ s.ctl.chan → exec (.mcc ch id value) s = .next s) ∧
    (ch = s.ctl.chan →
      (∀ r : Fin 4, id = s.cfg.ccId[r] →
        exec (.mcc ch id value) s = exec (.rate (BitVec.ofNat 8 r.val) (ccToRate s.cfg value)) s) ∧
      ((∀ r : Fin 4, id ≠ s.cfg.ccId[r]) → exec (.mcc ch id value) s = .next s)) ∧
    (s.cfg.ccToRate = .reference → (ccToRate s.cfg value).toNat = 16 * value.toNat)
end

