-- ==== Sys2Proof/Laws/Decode.lean ====
section
/-! SUPPORT. The fields of an assembled word, and masking one. -/

namespace Sys2Proof

@[simp] theorem opField_wordOf (op a : U8) (d : BitVec 16) : opField (wordOf op a d) = op := by
  apply BitVec.eq_of_getLsbD_eq
  intro i hi
  simp only [opField, wordOf, BitVec.getLsbD_extractLsb', BitVec.getLsbD_append, hi, decide_true, Bool.true_and]
  have h1 : ¬ (24 + i < 16) := by omega
  have h2 : ¬ (24 + i - 16 < 8) := by omega
  have h3 : 24 + i - 16 - 8 = i := by omega
  simp [h1, h2, h3]

@[simp] theorem aField_wordOf (op a : U8) (d : BitVec 16) : aField (wordOf op a d) = a := by
  apply BitVec.eq_of_getLsbD_eq
  intro i hi
  simp only [aField, wordOf, BitVec.getLsbD_extractLsb', BitVec.getLsbD_append, hi, decide_true, Bool.true_and]
  have h1 : ¬ (16 + i < 16) := by omega
  have h2 : 16 + i - 16 < 8 := by omega
  have h3 : 16 + i - 16 = i := by omega
  simp [h1, h3, hi]

@[simp] theorem dField_wordOf (op a : U8) (d : BitVec 16) : dField (wordOf op a d) = d := by
  apply BitVec.eq_of_getLsbD_eq
  intro i hi
  simp only [dField, wordOf, BitVec.getLsbD_extractLsb', BitVec.getLsbD_append, hi, decide_true, Bool.true_and]
  simp [hi]

@[simp] theorem hiField_wordOf (op a : U8) (d : BitVec 16) : hiField (wordOf op a d) = d.extractLsb' 8 8 := by
  apply BitVec.eq_of_getLsbD_eq
  intro i hi
  have h : 8 + i < 16 := by omega
  simp only [hiField, wordOf, BitVec.getLsbD_extractLsb', BitVec.getLsbD_append, hi, decide_true, Bool.true_and]
  simp [h]

@[simp] theorem loField_wordOf (op a : U8) (d : BitVec 16) : loField (wordOf op a d) = d.extractLsb' 0 8 := by
  apply BitVec.eq_of_getLsbD_eq
  intro i hi
  have h : i < 16 := by omega
  simp only [loField, wordOf, BitVec.getLsbD_extractLsb', BitVec.getLsbD_append, hi, decide_true, Bool.true_and]
  simp [h]

/-- Masking an assembled word masks its fields. -/
theorem wordOf_and (op a mo ma : U8) (d md : BitVec 16) :
    wordOf op a d &&& wordOf mo ma md = wordOf (op &&& mo) (a &&& ma) (d &&& md) := by
  exact (BitVec.and_append (x₁ := op ++ a) (x₂ := mo ++ ma) (y₁ := d) (y₂ := md)).trans
    (congrArg (· ++ (d &&& md)) BitVec.and_append)

/-- A word is its three fields. -/
theorem wordOf_fields (w : OpWord) : wordOf (opField w) (aField w) (dField w) = w := by
  apply BitVec.eq_of_getLsbD_eq
  intro i hi
  simp only [wordOf, opField, aField, dField, BitVec.getLsbD_append, BitVec.getLsbD_extractLsb']
  by_cases h1 : i < 16
  · simp [h1]
  · by_cases h2 : i - 16 < 8
    · simp [h1, h2, show 16 + (i - 16) = i by omega]
    · simp [h1, h2, show 24 + (i - 16 - 8) = i by omega, show i - 16 - 8 < 8 by omega]

end Sys2Proof
end

