-- ==== Sys2Proof/Laws/Memory.lean ====
section
/-! SUPPORT. The laws of the persisted region: read after write, and the canonical form kept by every write. -/

namespace Sys2Proof.Machine

/-- Reading below a canonical tail finds nothing. -/
theorem Memory.read_below {m : Memory} {lo a : Nat} (h : Memory.wfAbove m lo = true) (ha : a < lo) :
    Memory.read m a = nvUnlisted := by
  induction m generalizing lo with
  | nil => rfl
  | cons c m ih =>
    obtain ⟨b, v⟩ := c
    simp only [Memory.wfAbove, Bool.and_eq_true, decide_eq_true_eq] at h
    have hb : b ≠ a := by omega
    simp only [Memory.read, hb, if_false]
    exact ih h.2 (by omega)

/-- A canonical list above `lo` is canonical above everything lower. -/
theorem Memory.wfAbove_mono {m : Memory} {lo lo' : Nat} (h : Memory.wfAbove m lo = true) (hl : lo' ≤ lo) :
    Memory.wfAbove m lo' = true := by
  cases m with
  | nil => rfl
  | cons c m =>
    obtain ⟨b, v⟩ := c
    simp only [Memory.wfAbove, Bool.and_eq_true, decide_eq_true_eq] at h ⊢
    exact ⟨⟨by omega, h.1.2⟩, h.2⟩

/-- A write keeps the canonical form above any bound it respects. -/
theorem Memory.write_wfAbove {m : Memory} {lo a : Nat} (v : U8) (h : Memory.wfAbove m lo = true) (ha : lo ≤ a) :
    Memory.wfAbove (Memory.write m a v) lo = true := by
  induction m generalizing lo with
  | nil =>
    by_cases hv : v = nvUnlisted <;> simp [Memory.write, Memory.wfAbove, hv, ha]
  | cons c m ih =>
    obtain ⟨b, w⟩ := c
    have h0 := h
    simp only [Memory.wfAbove, Bool.and_eq_true, decide_eq_true_eq] at h
    simp only [Memory.write]
    split_ifs with h1 h2 h3 h4
    · exact h0
    · simp only [Memory.wfAbove, Bool.and_eq_true, decide_eq_true_eq, bne_iff_ne]
      exact ⟨⟨ha, h2⟩, ⟨by omega, by simpa using h.1.2⟩, h.2⟩
    · exact Memory.wfAbove_mono h.2 (by omega)
    · subst h3
      simp only [Memory.wfAbove, Bool.and_eq_true, decide_eq_true_eq, bne_iff_ne]
      exact ⟨⟨ha, h4⟩, h.2⟩
    · simp only [Memory.wfAbove, Bool.and_eq_true, decide_eq_true_eq]
      exact ⟨h.1, ih h.2 (by omega)⟩

/-- Every write keeps the canonical form. -/
theorem Memory.write_wf {m : Memory} (a : Nat) (v : U8) (h : Memory.wf m = true) :
    Memory.wf (Memory.write m a v) = true :=
  Memory.write_wfAbove v h (Nat.zero_le a)

/-- Reading the address just written gives the byte written (R68, R76). -/
theorem Memory.read_write_same {m : Memory} {lo : Nat} (a : Nat) (v : U8) (h : Memory.wfAbove m lo = true) :
    Memory.read (Memory.write m a v) a = v := by
  induction m generalizing lo with
  | nil => by_cases hv : v = nvUnlisted <;> simp [Memory.write, Memory.read, hv]
  | cons c m ih =>
    obtain ⟨b, w⟩ := c
    have h0 := h
    simp only [Memory.wfAbove, Bool.and_eq_true, decide_eq_true_eq] at h
    simp only [Memory.write]
    split_ifs with h1 h2 h3 h4
    · have hb : b ≠ a := by omega
      simp only [Memory.read, hb, if_false]
      rw [Memory.read_below h.2 (by omega), h2]
    · simp [Memory.read]
    · rw [Memory.read_below h.2 (by omega), h4]
    · simp [Memory.read]
    · have hb : b ≠ a := fun e => h3 e.symm
      simp only [Memory.read, hb, if_false]
      exact ih h.2

/-- Every other address reads as before; no canonical form is needed. -/
theorem Memory.read_write_other {m : Memory} {a a' : Nat} (v : U8) (hne : a' ≠ a) :
    Memory.read (Memory.write m a v) a' = Memory.read m a' := by
  have hne' : a ≠ a' := Ne.symm hne
  induction m with
  | nil => by_cases hv : v = nvUnlisted <;> simp [Memory.write, Memory.read, hv, hne']
  | cons c m ih =>
    obtain ⟨b, w⟩ := c
    simp only [Memory.write]
    split_ifs with h1 h2 h3 h4
    · rfl
    · simp [Memory.read, hne']
    · subst h3; simp [Memory.read, hne']
    · subst h3; simp [Memory.read, hne']
    · simp only [Memory.read, ih]

/-- Two canonical regions above one bound that read the same at every address are the same list. -/
theorem Memory.eq_of_read {m m' : Memory} {lo : Nat} (h : Memory.wfAbove m lo = true)
    (h' : Memory.wfAbove m' lo = true) (hr : ∀ a, Memory.read m a = Memory.read m' a) : m = m' := by
  induction m generalizing m' lo with
  | nil =>
    cases m' with
    | nil => rfl
    | cons c' m' =>
      obtain ⟨b', v'⟩ := c'
      have := hr b'
      simp_all [Memory.wfAbove, Memory.read]
  | cons c m ih =>
    obtain ⟨b, v⟩ := c
    cases m' with
    | nil =>
      have := hr b
      simp_all [Memory.wfAbove, Memory.read]
    | cons c' m' =>
      obtain ⟨b', v'⟩ := c'
      simp only [Memory.wfAbove, Bool.and_eq_true, decide_eq_true_eq, bne_iff_ne] at h h'
      have hb : b = b' := by
        by_contra hne
        rcases Nat.lt_or_gt_of_ne hne with hlt | hlt
        · have := hr b
          rw [Memory.read, if_pos rfl, Memory.read, if_neg (Ne.symm hne),
            Memory.read_below h'.2 (by omega)] at this
          exact h.1.2 this
        · have := hr b'
          rw [Memory.read, if_neg hne, Memory.read_below h.2 (by omega), Memory.read, if_pos rfl] at this
          exact h'.1.2 this.symm
      subst hb
      have hv : v = v' := by have := hr b; simpa [Memory.read] using this
      subst hv
      refine congrArg _ (ih h.2 h'.2 fun a => ?_)
      by_cases ha : b = a
      · subst ha
        rw [Memory.read_below h.2 (by omega), Memory.read_below h'.2 (by omega)]
      · have := hr a
        simpa [Memory.read, ha] using this

/-- A write lists no address but its own and those listed before. -/
theorem Memory.write_bound {m : Memory} {n a : Nat} (v : U8) (h : ∀ c ∈ m, c.1 < n) (ha : a < n) :
    ∀ c ∈ Memory.write m a v, c.1 < n := by
  induction m with
  | nil => by_cases hv : v = nvUnlisted <;> simp [Memory.write, hv, ha]
  | cons c m ih =>
    obtain ⟨b, w⟩ := c
    have hb : b < n := h _ (List.mem_cons_self ..)
    have hm : ∀ c ∈ m, c.1 < n := fun c hc => h c (List.mem_cons_of_mem _ hc)
    have hw := ih hm
    simp only [Memory.write]
    split_ifs
    · exact h
    · exact List.forall_mem_cons.mpr ⟨ha, h⟩
    · exact hm
    · exact List.forall_mem_cons.mpr ⟨ha, hm⟩
    · exact List.forall_mem_cons.mpr ⟨hb, hw⟩

end Sys2Proof.Machine
end

