-- ==== Sys2Proof/Laws/State.lean ====
section
/-! SUPPORT. What each named update of Machine/Ops.lean does to each field of State, one lemma a field, so that no
proof unfolds an update. The fields of the register groups follow from the group's lemma by projection. -/

namespace Sys2Proof.Machine

variable (s : State)

@[simp] theorem setReq_cfg (k : TrackId) : (s.setReq k).cfg = s.cfg := rfl
@[simp] theorem setReq_eng (k : TrackId) : (s.setReq k).eng = s.eng := rfl
@[simp] theorem setReq_reqs (k : TrackId) :
    (s.setReq k).reqs = { s.reqs with req := s.reqs.req.set k.val true k.isLt } := rfl
@[simp] theorem setReq_ctl (k : TrackId) : (s.setReq k).ctl = s.ctl := rfl
@[simp] theorem setReq_pat (k : TrackId) : (s.setReq k).pat = s.pat := rfl
@[simp] theorem setReq_nv (k : TrackId) : (s.setReq k).nv = s.nv := rfl
@[simp] theorem setReq_prog (k : TrackId) : (s.setReq k).prog = s.prog := rfl
@[simp] theorem setReq_inhibit (k : TrackId) : (s.setReq k).inhibit = s.inhibit := rfl
@[simp] theorem setReq_tickPend (k : TrackId) : (s.setReq k).tickPend = s.tickPend := rfl
@[simp] theorem setReq_tickStb (k : TrackId) : (s.setReq k).tickStb = s.tickStb := rfl
@[simp] theorem setReq_sched (k : TrackId) : (s.setReq k).sched = s.sched := rfl
@[simp] theorem setReq_trace (k : TrackId) : (s.setReq k).trace = s.trace := rfl
@[simp] theorem setReq_samples (k : TrackId) : (s.setReq k).samples = s.samples := rfl

@[simp] theorem setPulseReq_cfg : (s.setPulseReq).cfg = s.cfg := rfl
@[simp] theorem setPulseReq_eng : (s.setPulseReq).eng = s.eng := rfl
@[simp] theorem setPulseReq_reqs : (s.setPulseReq).reqs = { s.reqs with pulseReq := true } := rfl
@[simp] theorem setPulseReq_ctl : (s.setPulseReq).ctl = s.ctl := rfl
@[simp] theorem setPulseReq_pat : (s.setPulseReq).pat = s.pat := rfl
@[simp] theorem setPulseReq_nv : (s.setPulseReq).nv = s.nv := rfl
@[simp] theorem setPulseReq_prog : (s.setPulseReq).prog = s.prog := rfl
@[simp] theorem setPulseReq_inhibit : (s.setPulseReq).inhibit = s.inhibit := rfl
@[simp] theorem setPulseReq_tickPend : (s.setPulseReq).tickPend = s.tickPend := rfl
@[simp] theorem setPulseReq_tickStb : (s.setPulseReq).tickStb = s.tickStb := rfl
@[simp] theorem setPulseReq_sched : (s.setPulseReq).sched = s.sched := rfl
@[simp] theorem setPulseReq_trace : (s.setPulseReq).trace = s.trace := rfl
@[simp] theorem setPulseReq_samples : (s.setPulseReq).samples = s.samples := rfl

@[simp] theorem setPulseKill_cfg : (s.setPulseKill).cfg = s.cfg := rfl
@[simp] theorem setPulseKill_eng : (s.setPulseKill).eng = s.eng := rfl
@[simp] theorem setPulseKill_reqs : (s.setPulseKill).reqs = { s.reqs with pulseKill := true } := rfl
@[simp] theorem setPulseKill_ctl : (s.setPulseKill).ctl = s.ctl := rfl
@[simp] theorem setPulseKill_pat : (s.setPulseKill).pat = s.pat := rfl
@[simp] theorem setPulseKill_nv : (s.setPulseKill).nv = s.nv := rfl
@[simp] theorem setPulseKill_prog : (s.setPulseKill).prog = s.prog := rfl
@[simp] theorem setPulseKill_inhibit : (s.setPulseKill).inhibit = s.inhibit := rfl
@[simp] theorem setPulseKill_tickPend : (s.setPulseKill).tickPend = s.tickPend := rfl
@[simp] theorem setPulseKill_tickStb : (s.setPulseKill).tickStb = s.tickStb := rfl
@[simp] theorem setPulseKill_sched : (s.setPulseKill).sched = s.sched := rfl
@[simp] theorem setPulseKill_trace : (s.setPulseKill).trace = s.trace := rfl
@[simp] theorem setPulseKill_samples : (s.setPulseKill).samples = s.samples := rfl

@[simp] theorem setLiveIn_cfg (r : PairId) (v : S16) : (s.setLiveIn r v).cfg = s.cfg := rfl
@[simp] theorem setLiveIn_eng (r : PairId) (v : S16) : (s.setLiveIn r v).eng = s.eng := rfl
@[simp] theorem setLiveIn_reqs (r : PairId) (v : S16) : (s.setLiveIn r v).reqs = s.reqs := rfl
@[simp] theorem setLiveIn_ctl (r : PairId) (v : S16) :
    (s.setLiveIn r v).ctl = { s.ctl with liveIn := s.ctl.liveIn.set r.val v r.isLt } := rfl
@[simp] theorem setLiveIn_pat (r : PairId) (v : S16) : (s.setLiveIn r v).pat = s.pat := rfl
@[simp] theorem setLiveIn_nv (r : PairId) (v : S16) : (s.setLiveIn r v).nv = s.nv := rfl
@[simp] theorem setLiveIn_prog (r : PairId) (v : S16) : (s.setLiveIn r v).prog = s.prog := rfl
@[simp] theorem setLiveIn_inhibit (r : PairId) (v : S16) :
    (s.setLiveIn r v).inhibit = s.inhibit := rfl
@[simp] theorem setLiveIn_tickPend (r : PairId) (v : S16) :
    (s.setLiveIn r v).tickPend = s.tickPend := rfl
@[simp] theorem setLiveIn_tickStb (r : PairId) (v : S16) :
    (s.setLiveIn r v).tickStb = s.tickStb := rfl
@[simp] theorem setLiveIn_sched (r : PairId) (v : S16) : (s.setLiveIn r v).sched = s.sched := rfl
@[simp] theorem setLiveIn_trace (r : PairId) (v : S16) : (s.setLiveIn r v).trace = s.trace := rfl
@[simp] theorem setLiveIn_samples (r : PairId) (v : S16) :
    (s.setLiveIn r v).samples = s.samples := rfl

@[simp] theorem setCcRate_cfg (r : PairId) (v : S16) : (s.setCcRate r v).cfg = s.cfg := rfl
@[simp] theorem setCcRate_eng (r : PairId) (v : S16) : (s.setCcRate r v).eng = s.eng := rfl
@[simp] theorem setCcRate_reqs (r : PairId) (v : S16) : (s.setCcRate r v).reqs = s.reqs := rfl
@[simp] theorem setCcRate_ctl (r : PairId) (v : S16) :
    (s.setCcRate r v).ctl = { s.ctl with ccRate := s.ctl.ccRate.set r.val v r.isLt } := rfl
@[simp] theorem setCcRate_pat (r : PairId) (v : S16) : (s.setCcRate r v).pat = s.pat := rfl
@[simp] theorem setCcRate_nv (r : PairId) (v : S16) : (s.setCcRate r v).nv = s.nv := rfl
@[simp] theorem setCcRate_prog (r : PairId) (v : S16) : (s.setCcRate r v).prog = s.prog := rfl
@[simp] theorem setCcRate_inhibit (r : PairId) (v : S16) :
    (s.setCcRate r v).inhibit = s.inhibit := rfl
@[simp] theorem setCcRate_tickPend (r : PairId) (v : S16) :
    (s.setCcRate r v).tickPend = s.tickPend := rfl
@[simp] theorem setCcRate_tickStb (r : PairId) (v : S16) :
    (s.setCcRate r v).tickStb = s.tickStb := rfl
@[simp] theorem setCcRate_sched (r : PairId) (v : S16) : (s.setCcRate r v).sched = s.sched := rfl
@[simp] theorem setCcRate_trace (r : PairId) (v : S16) : (s.setCcRate r v).trace = s.trace := rfl
@[simp] theorem setCcRate_samples (r : PairId) (v : S16) :
    (s.setCcRate r v).samples = s.samples := rfl

@[simp] theorem setFixedRate_cfg (r : PairId) (v : S16) : (s.setFixedRate r v).cfg = s.cfg := rfl
@[simp] theorem setFixedRate_eng (r : PairId) (v : S16) : (s.setFixedRate r v).eng = s.eng := rfl
@[simp] theorem setFixedRate_reqs (r : PairId) (v : S16) : (s.setFixedRate r v).reqs = s.reqs := rfl
@[simp] theorem setFixedRate_ctl (r : PairId) (v : S16) :
    (s.setFixedRate r v).ctl = { s.ctl with fixedRate := s.ctl.fixedRate.set r.val v r.isLt } := rfl
@[simp] theorem setFixedRate_pat (r : PairId) (v : S16) : (s.setFixedRate r v).pat = s.pat := rfl
@[simp] theorem setFixedRate_nv (r : PairId) (v : S16) : (s.setFixedRate r v).nv = s.nv := rfl
@[simp] theorem setFixedRate_prog (r : PairId) (v : S16) : (s.setFixedRate r v).prog = s.prog := rfl
@[simp] theorem setFixedRate_inhibit (r : PairId) (v : S16) :
    (s.setFixedRate r v).inhibit = s.inhibit := rfl
@[simp] theorem setFixedRate_tickPend (r : PairId) (v : S16) :
    (s.setFixedRate r v).tickPend = s.tickPend := rfl
@[simp] theorem setFixedRate_tickStb (r : PairId) (v : S16) :
    (s.setFixedRate r v).tickStb = s.tickStb := rfl
@[simp] theorem setFixedRate_sched (r : PairId) (v : S16) :
    (s.setFixedRate r v).sched = s.sched := rfl
@[simp] theorem setFixedRate_trace (r : PairId) (v : S16) :
    (s.setFixedRate r v).trace = s.trace := rfl
@[simp] theorem setFixedRate_samples (r : PairId) (v : S16) :
    (s.setFixedRate r v).samples = s.samples := rfl

@[simp] theorem setTempo_cfg (v : U16) : (s.setTempo v).cfg = s.cfg := rfl
@[simp] theorem setTempo_eng (v : U16) : (s.setTempo v).eng = s.eng := rfl
@[simp] theorem setTempo_reqs (v : U16) : (s.setTempo v).reqs = s.reqs := rfl
@[simp] theorem setTempo_ctl (v : U16) : (s.setTempo v).ctl = { s.ctl with tempo := v } := rfl
@[simp] theorem setTempo_pat (v : U16) : (s.setTempo v).pat = s.pat := rfl
@[simp] theorem setTempo_nv (v : U16) : (s.setTempo v).nv = s.nv := rfl
@[simp] theorem setTempo_prog (v : U16) : (s.setTempo v).prog = s.prog := rfl
@[simp] theorem setTempo_inhibit (v : U16) : (s.setTempo v).inhibit = s.inhibit := rfl
@[simp] theorem setTempo_tickPend (v : U16) : (s.setTempo v).tickPend = s.tickPend := rfl
@[simp] theorem setTempo_tickStb (v : U16) : (s.setTempo v).tickStb = s.tickStb := rfl
@[simp] theorem setTempo_sched (v : U16) : (s.setTempo v).sched = s.sched := rfl
@[simp] theorem setTempo_trace (v : U16) : (s.setTempo v).trace = s.trace := rfl
@[simp] theorem setTempo_samples (v : U16) : (s.setTempo v).samples = s.samples := rfl

@[simp] theorem setRun_cfg (v : Bool) : (s.setRun v).cfg = s.cfg := rfl
@[simp] theorem setRun_eng (v : Bool) : (s.setRun v).eng = s.eng := rfl
@[simp] theorem setRun_reqs (v : Bool) : (s.setRun v).reqs = s.reqs := rfl
@[simp] theorem setRun_ctl (v : Bool) : (s.setRun v).ctl = { s.ctl with run := v } := rfl
@[simp] theorem setRun_pat (v : Bool) : (s.setRun v).pat = s.pat := rfl
@[simp] theorem setRun_nv (v : Bool) : (s.setRun v).nv = s.nv := rfl
@[simp] theorem setRun_prog (v : Bool) : (s.setRun v).prog = s.prog := rfl
@[simp] theorem setRun_inhibit (v : Bool) : (s.setRun v).inhibit = s.inhibit := rfl
@[simp] theorem setRun_tickPend (v : Bool) : (s.setRun v).tickPend = s.tickPend := rfl
@[simp] theorem setRun_tickStb (v : Bool) : (s.setRun v).tickStb = s.tickStb := rfl
@[simp] theorem setRun_sched (v : Bool) : (s.setRun v).sched = s.sched := rfl
@[simp] theorem setRun_trace (v : Bool) : (s.setRun v).trace = s.trace := rfl
@[simp] theorem setRun_samples (v : Bool) : (s.setRun v).samples = s.samples := rfl

@[simp] theorem setDir_cfg (v : Bool) : (s.setDir v).cfg = s.cfg := rfl
@[simp] theorem setDir_eng (v : Bool) : (s.setDir v).eng = s.eng := rfl
@[simp] theorem setDir_reqs (v : Bool) : (s.setDir v).reqs = s.reqs := rfl
@[simp] theorem setDir_ctl (v : Bool) : (s.setDir v).ctl = { s.ctl with dir := v } := rfl
@[simp] theorem setDir_pat (v : Bool) : (s.setDir v).pat = s.pat := rfl
@[simp] theorem setDir_nv (v : Bool) : (s.setDir v).nv = s.nv := rfl
@[simp] theorem setDir_prog (v : Bool) : (s.setDir v).prog = s.prog := rfl
@[simp] theorem setDir_inhibit (v : Bool) : (s.setDir v).inhibit = s.inhibit := rfl
@[simp] theorem setDir_tickPend (v : Bool) : (s.setDir v).tickPend = s.tickPend := rfl
@[simp] theorem setDir_tickStb (v : Bool) : (s.setDir v).tickStb = s.tickStb := rfl
@[simp] theorem setDir_sched (v : Bool) : (s.setDir v).sched = s.sched := rfl
@[simp] theorem setDir_trace (v : Bool) : (s.setDir v).trace = s.trace := rfl
@[simp] theorem setDir_samples (v : Bool) : (s.setDir v).samples = s.samples := rfl

@[simp] theorem setMix_cfg (v : Bool) : (s.setMix v).cfg = s.cfg := rfl
@[simp] theorem setMix_eng (v : Bool) : (s.setMix v).eng = s.eng := rfl
@[simp] theorem setMix_reqs (v : Bool) : (s.setMix v).reqs = s.reqs := rfl
@[simp] theorem setMix_ctl (v : Bool) : (s.setMix v).ctl = { s.ctl with mix := v } := rfl
@[simp] theorem setMix_pat (v : Bool) : (s.setMix v).pat = s.pat := rfl
@[simp] theorem setMix_nv (v : Bool) : (s.setMix v).nv = s.nv := rfl
@[simp] theorem setMix_prog (v : Bool) : (s.setMix v).prog = s.prog := rfl
@[simp] theorem setMix_inhibit (v : Bool) : (s.setMix v).inhibit = s.inhibit := rfl
@[simp] theorem setMix_tickPend (v : Bool) : (s.setMix v).tickPend = s.tickPend := rfl
@[simp] theorem setMix_tickStb (v : Bool) : (s.setMix v).tickStb = s.tickStb := rfl
@[simp] theorem setMix_sched (v : Bool) : (s.setMix v).sched = s.sched := rfl
@[simp] theorem setMix_trace (v : Bool) : (s.setMix v).trace = s.trace := rfl
@[simp] theorem setMix_samples (v : Bool) : (s.setMix v).samples = s.samples := rfl

@[simp] theorem setClick_cfg (v : Bool) : (s.setClick v).cfg = s.cfg := rfl
@[simp] theorem setClick_eng (v : Bool) : (s.setClick v).eng = s.eng := rfl
@[simp] theorem setClick_reqs (v : Bool) : (s.setClick v).reqs = s.reqs := rfl
@[simp] theorem setClick_ctl (v : Bool) : (s.setClick v).ctl = { s.ctl with click := v } := rfl
@[simp] theorem setClick_pat (v : Bool) : (s.setClick v).pat = s.pat := rfl
@[simp] theorem setClick_nv (v : Bool) : (s.setClick v).nv = s.nv := rfl
@[simp] theorem setClick_prog (v : Bool) : (s.setClick v).prog = s.prog := rfl
@[simp] theorem setClick_inhibit (v : Bool) : (s.setClick v).inhibit = s.inhibit := rfl
@[simp] theorem setClick_tickPend (v : Bool) : (s.setClick v).tickPend = s.tickPend := rfl
@[simp] theorem setClick_tickStb (v : Bool) : (s.setClick v).tickStb = s.tickStb := rfl
@[simp] theorem setClick_sched (v : Bool) : (s.setClick v).sched = s.sched := rfl
@[simp] theorem setClick_trace (v : Bool) : (s.setClick v).trace = s.trace := rfl
@[simp] theorem setClick_samples (v : Bool) : (s.setClick v).samples = s.samples := rfl

@[simp] theorem setBank_cfg (v : BankId) : (s.setBank v).cfg = s.cfg := rfl
@[simp] theorem setBank_eng (v : BankId) : (s.setBank v).eng = s.eng := rfl
@[simp] theorem setBank_reqs (v : BankId) : (s.setBank v).reqs = s.reqs := rfl
@[simp] theorem setBank_ctl (v : BankId) : (s.setBank v).ctl = { s.ctl with bank := v } := rfl
@[simp] theorem setBank_pat (v : BankId) : (s.setBank v).pat = s.pat := rfl
@[simp] theorem setBank_nv (v : BankId) : (s.setBank v).nv = s.nv := rfl
@[simp] theorem setBank_prog (v : BankId) : (s.setBank v).prog = s.prog := rfl
@[simp] theorem setBank_inhibit (v : BankId) : (s.setBank v).inhibit = s.inhibit := rfl
@[simp] theorem setBank_tickPend (v : BankId) : (s.setBank v).tickPend = s.tickPend := rfl
@[simp] theorem setBank_tickStb (v : BankId) : (s.setBank v).tickStb = s.tickStb := rfl
@[simp] theorem setBank_sched (v : BankId) : (s.setBank v).sched = s.sched := rfl
@[simp] theorem setBank_trace (v : BankId) : (s.setBank v).trace = s.trace := rfl
@[simp] theorem setBank_samples (v : BankId) : (s.setBank v).samples = s.samples := rfl

@[simp] theorem setChan_cfg (v : U8) : (s.setChan v).cfg = s.cfg := rfl
@[simp] theorem setChan_eng (v : U8) : (s.setChan v).eng = s.eng := rfl
@[simp] theorem setChan_reqs (v : U8) : (s.setChan v).reqs = s.reqs := rfl
@[simp] theorem setChan_ctl (v : U8) : (s.setChan v).ctl = { s.ctl with chan := v } := rfl
@[simp] theorem setChan_pat (v : U8) : (s.setChan v).pat = s.pat := rfl
@[simp] theorem setChan_nv (v : U8) : (s.setChan v).nv = s.nv := rfl
@[simp] theorem setChan_prog (v : U8) : (s.setChan v).prog = s.prog := rfl
@[simp] theorem setChan_inhibit (v : U8) : (s.setChan v).inhibit = s.inhibit := rfl
@[simp] theorem setChan_tickPend (v : U8) : (s.setChan v).tickPend = s.tickPend := rfl
@[simp] theorem setChan_tickStb (v : U8) : (s.setChan v).tickStb = s.tickStb := rfl
@[simp] theorem setChan_sched (v : U8) : (s.setChan v).sched = s.sched := rfl
@[simp] theorem setChan_trace (v : U8) : (s.setChan v).trace = s.trace := rfl
@[simp] theorem setChan_samples (v : U8) : (s.setChan v).samples = s.samples := rfl

@[simp] theorem setLastSlot_cfg (v : BankId) : (s.setLastSlot v).cfg = s.cfg := rfl
@[simp] theorem setLastSlot_eng (v : BankId) : (s.setLastSlot v).eng = s.eng := rfl
@[simp] theorem setLastSlot_reqs (v : BankId) : (s.setLastSlot v).reqs = s.reqs := rfl
@[simp] theorem setLastSlot_ctl (v : BankId) :
    (s.setLastSlot v).ctl = { s.ctl with lastSlot := v } := rfl
@[simp] theorem setLastSlot_pat (v : BankId) : (s.setLastSlot v).pat = s.pat := rfl
@[simp] theorem setLastSlot_nv (v : BankId) : (s.setLastSlot v).nv = s.nv := rfl
@[simp] theorem setLastSlot_prog (v : BankId) : (s.setLastSlot v).prog = s.prog := rfl
@[simp] theorem setLastSlot_inhibit (v : BankId) : (s.setLastSlot v).inhibit = s.inhibit := rfl
@[simp] theorem setLastSlot_tickPend (v : BankId) : (s.setLastSlot v).tickPend = s.tickPend := rfl
@[simp] theorem setLastSlot_tickStb (v : BankId) : (s.setLastSlot v).tickStb = s.tickStb := rfl
@[simp] theorem setLastSlot_sched (v : BankId) : (s.setLastSlot v).sched = s.sched := rfl
@[simp] theorem setLastSlot_trace (v : BankId) : (s.setLastSlot v).trace = s.trace := rfl
@[simp] theorem setLastSlot_samples (v : BankId) : (s.setLastSlot v).samples = s.samples := rfl

@[simp] theorem setRec_cfg (v : Bool) : (s.setRec v).cfg = s.cfg := rfl
@[simp] theorem setRec_eng (v : Bool) : (s.setRec v).eng = s.eng := rfl
@[simp] theorem setRec_reqs (v : Bool) : (s.setRec v).reqs = s.reqs := rfl
@[simp] theorem setRec_ctl (v : Bool) : (s.setRec v).ctl = { s.ctl with recArmed := v } := rfl
@[simp] theorem setRec_pat (v : Bool) : (s.setRec v).pat = s.pat := rfl
@[simp] theorem setRec_nv (v : Bool) : (s.setRec v).nv = s.nv := rfl
@[simp] theorem setRec_prog (v : Bool) : (s.setRec v).prog = s.prog := rfl
@[simp] theorem setRec_inhibit (v : Bool) : (s.setRec v).inhibit = s.inhibit := rfl
@[simp] theorem setRec_tickPend (v : Bool) : (s.setRec v).tickPend = s.tickPend := rfl
@[simp] theorem setRec_tickStb (v : Bool) : (s.setRec v).tickStb = s.tickStb := rfl
@[simp] theorem setRec_sched (v : Bool) : (s.setRec v).sched = s.sched := rfl
@[simp] theorem setRec_trace (v : Bool) : (s.setRec v).trace = s.trace := rfl
@[simp] theorem setRec_samples (v : Bool) : (s.setRec v).samples = s.samples := rfl

@[simp] theorem setOvr_cfg (v : Bool) : (s.setOvr v).cfg = s.cfg := rfl
@[simp] theorem setOvr_eng (v : Bool) : (s.setOvr v).eng = s.eng := rfl
@[simp] theorem setOvr_reqs (v : Bool) : (s.setOvr v).reqs = s.reqs := rfl
@[simp] theorem setOvr_ctl (v : Bool) : (s.setOvr v).ctl = { s.ctl with ovr := v } := rfl
@[simp] theorem setOvr_pat (v : Bool) : (s.setOvr v).pat = s.pat := rfl
@[simp] theorem setOvr_nv (v : Bool) : (s.setOvr v).nv = s.nv := rfl
@[simp] theorem setOvr_prog (v : Bool) : (s.setOvr v).prog = s.prog := rfl
@[simp] theorem setOvr_inhibit (v : Bool) : (s.setOvr v).inhibit = s.inhibit := rfl
@[simp] theorem setOvr_tickPend (v : Bool) : (s.setOvr v).tickPend = s.tickPend := rfl
@[simp] theorem setOvr_tickStb (v : Bool) : (s.setOvr v).tickStb = s.tickStb := rfl
@[simp] theorem setOvr_sched (v : Bool) : (s.setOvr v).sched = s.sched := rfl
@[simp] theorem setOvr_trace (v : Bool) : (s.setOvr v).trace = s.trace := rfl
@[simp] theorem setOvr_samples (v : Bool) : (s.setOvr v).samples = s.samples := rfl

@[simp] theorem setDivN_cfg (v : U8) : (s.setDivN v).cfg = s.cfg := rfl
@[simp] theorem setDivN_eng (v : U8) : (s.setDivN v).eng = s.eng := rfl
@[simp] theorem setDivN_reqs (v : U8) : (s.setDivN v).reqs = s.reqs := rfl
@[simp] theorem setDivN_ctl (v : U8) : (s.setDivN v).ctl = { s.ctl with divN := v } := rfl
@[simp] theorem setDivN_pat (v : U8) : (s.setDivN v).pat = s.pat := rfl
@[simp] theorem setDivN_nv (v : U8) : (s.setDivN v).nv = s.nv := rfl
@[simp] theorem setDivN_prog (v : U8) : (s.setDivN v).prog = s.prog := rfl
@[simp] theorem setDivN_inhibit (v : U8) : (s.setDivN v).inhibit = s.inhibit := rfl
@[simp] theorem setDivN_tickPend (v : U8) : (s.setDivN v).tickPend = s.tickPend := rfl
@[simp] theorem setDivN_tickStb (v : U8) : (s.setDivN v).tickStb = s.tickStb := rfl
@[simp] theorem setDivN_sched (v : U8) : (s.setDivN v).sched = s.sched := rfl
@[simp] theorem setDivN_trace (v : U8) : (s.setDivN v).trace = s.trace := rfl
@[simp] theorem setDivN_samples (v : U8) : (s.setDivN v).samples = s.samples := rfl

@[simp] theorem setDivCnt_cfg (v : U8) : (s.setDivCnt v).cfg = s.cfg := rfl
@[simp] theorem setDivCnt_eng (v : U8) : (s.setDivCnt v).eng = s.eng := rfl
@[simp] theorem setDivCnt_reqs (v : U8) : (s.setDivCnt v).reqs = s.reqs := rfl
@[simp] theorem setDivCnt_ctl (v : U8) : (s.setDivCnt v).ctl = { s.ctl with divCnt := v } := rfl
@[simp] theorem setDivCnt_pat (v : U8) : (s.setDivCnt v).pat = s.pat := rfl
@[simp] theorem setDivCnt_nv (v : U8) : (s.setDivCnt v).nv = s.nv := rfl
@[simp] theorem setDivCnt_prog (v : U8) : (s.setDivCnt v).prog = s.prog := rfl
@[simp] theorem setDivCnt_inhibit (v : U8) : (s.setDivCnt v).inhibit = s.inhibit := rfl
@[simp] theorem setDivCnt_tickPend (v : U8) : (s.setDivCnt v).tickPend = s.tickPend := rfl
@[simp] theorem setDivCnt_tickStb (v : U8) : (s.setDivCnt v).tickStb = s.tickStb := rfl
@[simp] theorem setDivCnt_sched (v : U8) : (s.setDivCnt v).sched = s.sched := rfl
@[simp] theorem setDivCnt_trace (v : U8) : (s.setDivCnt v).trace = s.trace := rfl
@[simp] theorem setDivCnt_samples (v : U8) : (s.setDivCnt v).samples = s.samples := rfl

@[simp] theorem setLaHold_cfg (v : U16) : (s.setLaHold v).cfg = s.cfg := rfl
@[simp] theorem setLaHold_eng (v : U16) : (s.setLaHold v).eng = s.eng := rfl
@[simp] theorem setLaHold_reqs (v : U16) : (s.setLaHold v).reqs = s.reqs := rfl
@[simp] theorem setLaHold_ctl (v : U16) : (s.setLaHold v).ctl = { s.ctl with laHold := v } := rfl
@[simp] theorem setLaHold_pat (v : U16) : (s.setLaHold v).pat = s.pat := rfl
@[simp] theorem setLaHold_nv (v : U16) : (s.setLaHold v).nv = s.nv := rfl
@[simp] theorem setLaHold_prog (v : U16) : (s.setLaHold v).prog = s.prog := rfl
@[simp] theorem setLaHold_inhibit (v : U16) : (s.setLaHold v).inhibit = s.inhibit := rfl
@[simp] theorem setLaHold_tickPend (v : U16) : (s.setLaHold v).tickPend = s.tickPend := rfl
@[simp] theorem setLaHold_tickStb (v : U16) : (s.setLaHold v).tickStb = s.tickStb := rfl
@[simp] theorem setLaHold_sched (v : U16) : (s.setLaHold v).sched = s.sched := rfl
@[simp] theorem setLaHold_trace (v : U16) : (s.setLaHold v).trace = s.trace := rfl
@[simp] theorem setLaHold_samples (v : U16) : (s.setLaHold v).samples = s.samples := rfl

@[simp] theorem setRsp_cfg (v : U16) : (s.setRsp v).cfg = s.cfg := rfl
@[simp] theorem setRsp_eng (v : U16) : (s.setRsp v).eng = s.eng := rfl
@[simp] theorem setRsp_reqs (v : U16) : (s.setRsp v).reqs = s.reqs := rfl
@[simp] theorem setRsp_ctl (v : U16) : (s.setRsp v).ctl = { s.ctl with rsp := v } := rfl
@[simp] theorem setRsp_pat (v : U16) : (s.setRsp v).pat = s.pat := rfl
@[simp] theorem setRsp_nv (v : U16) : (s.setRsp v).nv = s.nv := rfl
@[simp] theorem setRsp_prog (v : U16) : (s.setRsp v).prog = s.prog := rfl
@[simp] theorem setRsp_inhibit (v : U16) : (s.setRsp v).inhibit = s.inhibit := rfl
@[simp] theorem setRsp_tickPend (v : U16) : (s.setRsp v).tickPend = s.tickPend := rfl
@[simp] theorem setRsp_tickStb (v : U16) : (s.setRsp v).tickStb = s.tickStb := rfl
@[simp] theorem setRsp_sched (v : U16) : (s.setRsp v).sched = s.sched := rfl
@[simp] theorem setRsp_trace (v : U16) : (s.setRsp v).trace = s.trace := rfl
@[simp] theorem setRsp_samples (v : U16) : (s.setRsp v).samples = s.samples := rfl

@[simp] theorem setInhibit_cfg (v : Bool) : (s.setInhibit v).cfg = s.cfg := rfl
@[simp] theorem setInhibit_eng (v : Bool) : (s.setInhibit v).eng = s.eng := rfl
@[simp] theorem setInhibit_reqs (v : Bool) : (s.setInhibit v).reqs = s.reqs := rfl
@[simp] theorem setInhibit_ctl (v : Bool) : (s.setInhibit v).ctl = s.ctl := rfl
@[simp] theorem setInhibit_pat (v : Bool) : (s.setInhibit v).pat = s.pat := rfl
@[simp] theorem setInhibit_nv (v : Bool) : (s.setInhibit v).nv = s.nv := rfl
@[simp] theorem setInhibit_prog (v : Bool) : (s.setInhibit v).prog = s.prog := rfl
@[simp] theorem setInhibit_inhibit (v : Bool) : (s.setInhibit v).inhibit = v := rfl
@[simp] theorem setInhibit_tickPend (v : Bool) : (s.setInhibit v).tickPend = s.tickPend := rfl
@[simp] theorem setInhibit_tickStb (v : Bool) : (s.setInhibit v).tickStb = s.tickStb := rfl
@[simp] theorem setInhibit_sched (v : Bool) : (s.setInhibit v).sched = s.sched := rfl
@[simp] theorem setInhibit_trace (v : Bool) : (s.setInhibit v).trace = s.trace := rfl
@[simp] theorem setInhibit_samples (v : Bool) : (s.setInhibit v).samples = s.samples := rfl

@[simp] theorem setTickPend_cfg (v : Bool) : (s.setTickPend v).cfg = s.cfg := rfl
@[simp] theorem setTickPend_eng (v : Bool) : (s.setTickPend v).eng = s.eng := rfl
@[simp] theorem setTickPend_reqs (v : Bool) : (s.setTickPend v).reqs = s.reqs := rfl
@[simp] theorem setTickPend_ctl (v : Bool) : (s.setTickPend v).ctl = s.ctl := rfl
@[simp] theorem setTickPend_pat (v : Bool) : (s.setTickPend v).pat = s.pat := rfl
@[simp] theorem setTickPend_nv (v : Bool) : (s.setTickPend v).nv = s.nv := rfl
@[simp] theorem setTickPend_prog (v : Bool) : (s.setTickPend v).prog = s.prog := rfl
@[simp] theorem setTickPend_inhibit (v : Bool) : (s.setTickPend v).inhibit = s.inhibit := rfl
@[simp] theorem setTickPend_tickPend (v : Bool) : (s.setTickPend v).tickPend = v := rfl
@[simp] theorem setTickPend_tickStb (v : Bool) : (s.setTickPend v).tickStb = s.tickStb := rfl
@[simp] theorem setTickPend_sched (v : Bool) : (s.setTickPend v).sched = s.sched := rfl
@[simp] theorem setTickPend_trace (v : Bool) : (s.setTickPend v).trace = s.trace := rfl
@[simp] theorem setTickPend_samples (v : Bool) : (s.setTickPend v).samples = s.samples := rfl

@[simp] theorem setTickStb_cfg (v : Bool) : (s.setTickStb v).cfg = s.cfg := rfl
@[simp] theorem setTickStb_eng (v : Bool) : (s.setTickStb v).eng = s.eng := rfl
@[simp] theorem setTickStb_reqs (v : Bool) : (s.setTickStb v).reqs = s.reqs := rfl
@[simp] theorem setTickStb_ctl (v : Bool) : (s.setTickStb v).ctl = s.ctl := rfl
@[simp] theorem setTickStb_pat (v : Bool) : (s.setTickStb v).pat = s.pat := rfl
@[simp] theorem setTickStb_nv (v : Bool) : (s.setTickStb v).nv = s.nv := rfl
@[simp] theorem setTickStb_prog (v : Bool) : (s.setTickStb v).prog = s.prog := rfl
@[simp] theorem setTickStb_inhibit (v : Bool) : (s.setTickStb v).inhibit = s.inhibit := rfl
@[simp] theorem setTickStb_tickPend (v : Bool) : (s.setTickStb v).tickPend = s.tickPend := rfl
@[simp] theorem setTickStb_tickStb (v : Bool) : (s.setTickStb v).tickStb = v := rfl
@[simp] theorem setTickStb_sched (v : Bool) : (s.setTickStb v).sched = s.sched := rfl
@[simp] theorem setTickStb_trace (v : Bool) : (s.setTickStb v).trace = s.trace := rfl
@[simp] theorem setTickStb_samples (v : Bool) : (s.setTickStb v).samples = s.samples := rfl

@[simp] theorem setProg_cfg (v : List MicroOp) : (s.setProg v).cfg = s.cfg := rfl
@[simp] theorem setProg_eng (v : List MicroOp) : (s.setProg v).eng = s.eng := rfl
@[simp] theorem setProg_reqs (v : List MicroOp) : (s.setProg v).reqs = s.reqs := rfl
@[simp] theorem setProg_ctl (v : List MicroOp) : (s.setProg v).ctl = s.ctl := rfl
@[simp] theorem setProg_pat (v : List MicroOp) : (s.setProg v).pat = s.pat := rfl
@[simp] theorem setProg_nv (v : List MicroOp) : (s.setProg v).nv = s.nv := rfl
@[simp] theorem setProg_prog (v : List MicroOp) : (s.setProg v).prog = v := rfl
@[simp] theorem setProg_inhibit (v : List MicroOp) : (s.setProg v).inhibit = s.inhibit := rfl
@[simp] theorem setProg_tickPend (v : List MicroOp) : (s.setProg v).tickPend = s.tickPend := rfl
@[simp] theorem setProg_tickStb (v : List MicroOp) : (s.setProg v).tickStb = s.tickStb := rfl
@[simp] theorem setProg_sched (v : List MicroOp) : (s.setProg v).sched = s.sched := rfl
@[simp] theorem setProg_trace (v : List MicroOp) : (s.setProg v).trace = s.trace := rfl
@[simp] theorem setProg_samples (v : List MicroOp) : (s.setProg v).samples = s.samples := rfl

@[simp] theorem setSched_cfg (v : List Slot) : (s.setSched v).cfg = s.cfg := rfl
@[simp] theorem setSched_eng (v : List Slot) : (s.setSched v).eng = s.eng := rfl
@[simp] theorem setSched_reqs (v : List Slot) : (s.setSched v).reqs = s.reqs := rfl
@[simp] theorem setSched_ctl (v : List Slot) : (s.setSched v).ctl = s.ctl := rfl
@[simp] theorem setSched_pat (v : List Slot) : (s.setSched v).pat = s.pat := rfl
@[simp] theorem setSched_nv (v : List Slot) : (s.setSched v).nv = s.nv := rfl
@[simp] theorem setSched_prog (v : List Slot) : (s.setSched v).prog = s.prog := rfl
@[simp] theorem setSched_inhibit (v : List Slot) : (s.setSched v).inhibit = s.inhibit := rfl
@[simp] theorem setSched_tickPend (v : List Slot) : (s.setSched v).tickPend = s.tickPend := rfl
@[simp] theorem setSched_tickStb (v : List Slot) : (s.setSched v).tickStb = s.tickStb := rfl
@[simp] theorem setSched_sched (v : List Slot) : (s.setSched v).sched = v := rfl
@[simp] theorem setSched_trace (v : List Slot) : (s.setSched v).trace = s.trace := rfl
@[simp] theorem setSched_samples (v : List Slot) : (s.setSched v).samples = s.samples := rfl

@[simp] theorem setTrace_cfg (v : List OpWord) : (s.setTrace v).cfg = s.cfg := rfl
@[simp] theorem setTrace_eng (v : List OpWord) : (s.setTrace v).eng = s.eng := rfl
@[simp] theorem setTrace_reqs (v : List OpWord) : (s.setTrace v).reqs = s.reqs := rfl
@[simp] theorem setTrace_ctl (v : List OpWord) : (s.setTrace v).ctl = s.ctl := rfl
@[simp] theorem setTrace_pat (v : List OpWord) : (s.setTrace v).pat = s.pat := rfl
@[simp] theorem setTrace_nv (v : List OpWord) : (s.setTrace v).nv = s.nv := rfl
@[simp] theorem setTrace_prog (v : List OpWord) : (s.setTrace v).prog = s.prog := rfl
@[simp] theorem setTrace_inhibit (v : List OpWord) : (s.setTrace v).inhibit = s.inhibit := rfl
@[simp] theorem setTrace_tickPend (v : List OpWord) : (s.setTrace v).tickPend = s.tickPend := rfl
@[simp] theorem setTrace_tickStb (v : List OpWord) : (s.setTrace v).tickStb = s.tickStb := rfl
@[simp] theorem setTrace_sched (v : List OpWord) : (s.setTrace v).sched = s.sched := rfl
@[simp] theorem setTrace_trace (v : List OpWord) : (s.setTrace v).trace = v := rfl
@[simp] theorem setTrace_samples (v : List OpWord) : (s.setTrace v).samples = s.samples := rfl

@[simp] theorem setNv_cfg (v : Memory) : (s.setNv v).cfg = s.cfg := rfl
@[simp] theorem setNv_eng (v : Memory) : (s.setNv v).eng = s.eng := rfl
@[simp] theorem setNv_reqs (v : Memory) : (s.setNv v).reqs = s.reqs := rfl
@[simp] theorem setNv_ctl (v : Memory) : (s.setNv v).ctl = s.ctl := rfl
@[simp] theorem setNv_pat (v : Memory) : (s.setNv v).pat = s.pat := rfl
@[simp] theorem setNv_nv (v : Memory) : (s.setNv v).nv = v := rfl
@[simp] theorem setNv_prog (v : Memory) : (s.setNv v).prog = s.prog := rfl
@[simp] theorem setNv_inhibit (v : Memory) : (s.setNv v).inhibit = s.inhibit := rfl
@[simp] theorem setNv_tickPend (v : Memory) : (s.setNv v).tickPend = s.tickPend := rfl
@[simp] theorem setNv_tickStb (v : Memory) : (s.setNv v).tickStb = s.tickStb := rfl
@[simp] theorem setNv_sched (v : Memory) : (s.setNv v).sched = s.sched := rfl
@[simp] theorem setNv_trace (v : Memory) : (s.setNv v).trace = s.trace := rfl
@[simp] theorem setNv_samples (v : Memory) : (s.setNv v).samples = s.samples := rfl

@[simp] theorem setFlag_cfg (k : TrackId) (x : PatIx) (v : Bool) :
    (s.setFlag k x v).cfg = s.cfg := rfl
@[simp] theorem setFlag_eng (k : TrackId) (x : PatIx) (v : Bool) :
    (s.setFlag k x v).eng = s.eng := rfl
@[simp] theorem setFlag_reqs (k : TrackId) (x : PatIx) (v : Bool) :
    (s.setFlag k x v).reqs = s.reqs := rfl
@[simp] theorem setFlag_ctl (k : TrackId) (x : PatIx) (v : Bool) :
    (s.setFlag k x v).ctl = s.ctl := rfl
@[simp] theorem setFlag_pat (k : TrackId) (x : PatIx) (v : Bool) :
    (s.setFlag k x v).pat = { s.pat with flags := s.pat.flags.set k.val (s.pat.flags[k].set x.val v x.isLt) k.isLt } := rfl
@[simp] theorem setFlag_nv (k : TrackId) (x : PatIx) (v : Bool) : (s.setFlag k x v).nv = s.nv := rfl
@[simp] theorem setFlag_prog (k : TrackId) (x : PatIx) (v : Bool) :
    (s.setFlag k x v).prog = s.prog := rfl
@[simp] theorem setFlag_inhibit (k : TrackId) (x : PatIx) (v : Bool) :
    (s.setFlag k x v).inhibit = s.inhibit := rfl
@[simp] theorem setFlag_tickPend (k : TrackId) (x : PatIx) (v : Bool) :
    (s.setFlag k x v).tickPend = s.tickPend := rfl
@[simp] theorem setFlag_tickStb (k : TrackId) (x : PatIx) (v : Bool) :
    (s.setFlag k x v).tickStb = s.tickStb := rfl
@[simp] theorem setFlag_sched (k : TrackId) (x : PatIx) (v : Bool) :
    (s.setFlag k x v).sched = s.sched := rfl
@[simp] theorem setFlag_trace (k : TrackId) (x : PatIx) (v : Bool) :
    (s.setFlag k x v).trace = s.trace := rfl
@[simp] theorem setFlag_samples (k : TrackId) (x : PatIx) (v : Bool) :
    (s.setFlag k x v).samples = s.samples := rfl

@[simp] theorem setPitch_cfg (p : PairId) (x : PatIx) (v : S16) :
    (s.setPitch p x v).cfg = s.cfg := rfl
@[simp] theorem setPitch_eng (p : PairId) (x : PatIx) (v : S16) :
    (s.setPitch p x v).eng = s.eng := rfl
@[simp] theorem setPitch_reqs (p : PairId) (x : PatIx) (v : S16) :
    (s.setPitch p x v).reqs = s.reqs := rfl
@[simp] theorem setPitch_ctl (p : PairId) (x : PatIx) (v : S16) :
    (s.setPitch p x v).ctl = s.ctl := rfl
@[simp] theorem setPitch_pat (p : PairId) (x : PatIx) (v : S16) :
    (s.setPitch p x v).pat = { s.pat with pitch := s.pat.pitch.set p.val (s.pat.pitch[p].set x.val v x.isLt) p.isLt } := rfl
@[simp] theorem setPitch_nv (p : PairId) (x : PatIx) (v : S16) : (s.setPitch p x v).nv = s.nv := rfl
@[simp] theorem setPitch_prog (p : PairId) (x : PatIx) (v : S16) :
    (s.setPitch p x v).prog = s.prog := rfl
@[simp] theorem setPitch_inhibit (p : PairId) (x : PatIx) (v : S16) :
    (s.setPitch p x v).inhibit = s.inhibit := rfl
@[simp] theorem setPitch_tickPend (p : PairId) (x : PatIx) (v : S16) :
    (s.setPitch p x v).tickPend = s.tickPend := rfl
@[simp] theorem setPitch_tickStb (p : PairId) (x : PatIx) (v : S16) :
    (s.setPitch p x v).tickStb = s.tickStb := rfl
@[simp] theorem setPitch_sched (p : PairId) (x : PatIx) (v : S16) :
    (s.setPitch p x v).sched = s.sched := rfl
@[simp] theorem setPitch_trace (p : PairId) (x : PatIx) (v : S16) :
    (s.setPitch p x v).trace = s.trace := rfl
@[simp] theorem setPitch_samples (p : PairId) (x : PatIx) (v : S16) :
    (s.setPitch p x v).samples = s.samples := rfl

/-- Reading a flag after a flag write. -/
@[simp] theorem setFlag_flag (k k' : TrackId) (x x' : PatIx) (v : Bool) :
    (s.setFlag k x v).flag k' x' = if k' = k ∧ x' = x then v else s.flag k' x' := by
  obtain ⟨k, hk⟩ := k; obtain ⟨k', hk'⟩ := k'; obtain ⟨x, hx⟩ := x; obtain ⟨x', hx'⟩ := x'
  simp only [State.flag, State.setFlag, Fin.getElem_fin, Fin.mk.injEq]
  by_cases h : k = k'
  · subst h
    by_cases h2 : x = x'
    · simp [h2]
    · simp [h2, Ne.symm h2]
  · simp [Ne.symm h, h]

/-- Reading a pitch entry after a pitch write. -/
@[simp] theorem setPitch_pitch (p p' : PairId) (x x' : PatIx) (v : S16) :
    (s.setPitch p x v).pitch p' x' = if p' = p ∧ x' = x then v else s.pitch p' x' := by
  obtain ⟨p, hp⟩ := p; obtain ⟨p', hp'⟩ := p'; obtain ⟨x, hx⟩ := x; obtain ⟨x', hx'⟩ := x'
  simp only [State.pitch, State.setPitch, Fin.getElem_fin, Fin.mk.injEq]
  by_cases h : p = p'
  · subst h
    by_cases h2 : x = x'
    · simp [h2]
    · simp [h2, Ne.symm h2]
  · simp [Ne.symm h, h]

/-- A flag write leaves the pitch store, a pitch write the flags. -/
@[simp] theorem setFlag_pitch (k : TrackId) (x : PatIx) (v : Bool) (p : PairId) (y : PatIx) :
    (s.setFlag k x v).pitch p y = s.pitch p y := rfl

@[simp] theorem setPitch_flag (p : PairId) (x : PatIx) (v : S16) (k : TrackId) (y : PatIx) :
    (s.setPitch p x v).flag k y = s.flag k y := rfl

/-- The pattern store is what its two reads show. -/
theorem pattern_ext {a b : State} (hf : ∀ k x, a.flag k x = b.flag k x) (hp : ∀ p x, a.pitch p x = b.pitch p x) :
    a.pat = b.pat := by
  have hflags : a.pat.flags = b.pat.flags := by
    ext k hk x hx
    exact hf ⟨k, hk⟩ ⟨x, hx⟩
  have hpitch : a.pat.pitch = b.pat.pitch := by
    ext p hp' x hx
    exact congrArg (fun w => BitVec.getLsbD w _) (hp ⟨p, hp'⟩ ⟨x, hx⟩)
  cases ha : a.pat; cases hb : b.pat
  simp_all

end Sys2Proof.Machine
end

