-- ==== Sys2Proof/Laws/Ops.lean ====
section
/-! SUPPORT. What each shared operation can do, once: a caller's proof cites these and unfolds no operation. -/

namespace Sys2Proof.Machine

variable {s t : State}

/-- `NvWrite` gives a next state only at an address of the region, and then stores that one byte. -/
theorem nvWrite_next {a : Nat} {b : U8} (h : nvWrite s a b = .next t) :
    a < nvSize s.cfg ∧ t = s.setNv (Memory.write s.nv a b) := by
  unfold nvWrite at h
  split_ifs at h with ha
  exact ⟨ha, by simpa using h.symm⟩

/-- At an address of the region `NvWrite` succeeds (R76). -/
theorem nvWrite_of_lt {a : Nat} (b : U8) (h : a < nvSize s.cfg) :
    nvWrite s a b = .next (s.setNv (Memory.write s.nv a b)) := by
  simp [nvWrite, h]

/-- Continuing with a byte gives a next state only at an address of the region, with the byte there. -/
theorem withNvByte_next {a : Nat} {f : U8 → Result} (h : withNvByte s a f = .next t) :
    a < nvSize s.cfg ∧ f (Memory.read s.nv a) = .next t := by
  unfold withNvByte nvRead at h
  by_cases ha : a < nvSize s.cfg
  · simp only [ha, if_true] at h; exact ⟨ha, h⟩
  · simp [ha] at h

/-- At an address of the region the byte is read (R76). -/
theorem withNvByte_of_lt {a : Nat} (f : U8 → Result) (h : a < nvSize s.cfg) :
    withNvByte s a f = f (Memory.read s.nv a) := by
  simp [withNvByte, nvRead, h]

/-- The recording index of a captured step 0..31 is the step's index in the bank (R201). -/
theorem recordIdx_of_lt {h : U16} (b : BankId) (hl : h.toNat < 32) :
    recordIdx h b = some (patIdx (h.setWidth 5) b) := by
  have hb := bankOff_le b
  have hm : h.toNat % 32 = h.toNat := Nat.mod_eq_of_lt hl
  simp [recordIdx, patIdx, hm]
  omega

/-- Acting at the recording index goes on only when that index is in the store. -/
theorem atRecordIdx_next {b : BankId} {f : PatIx → Result} (h : atRecordIdx s b f = .next t) :
    ∃ x, recordIdx s.ctl.laHold b = some x ∧ f x = .next t := by
  unfold atRecordIdx at h
  split at h
  · exact ⟨_, ‹_›, h⟩
  · cases h

/-- With a captured step 0..31 it always goes on (R201). -/
theorem atRecordIdx_of_lt (b : BankId) (f : PatIx → Result) (hl : s.ctl.laHold.toNat < 32) :
    atRecordIdx s b f = f (patIdx (s.ctl.laHold.setWidth 5) b) := by
  simp [atRecordIdx, recordIdx_of_lt b hl]

/-- The gated read writes `la_hold`, leaves the gate open and turns a strobe that arrived into a held one; nothing
else (R263, R265). -/
theorem gatedCapture_eq (s : State) :
    gatedCapture s =
      { s with
        ctl := { s.ctl with laHold := s.eng.la }
        inhibit := false
        tickPend := s.tickPend || s.tickStb
        tickStb := false } := by
  cases h : s.tickStb <;> cases hp : s.tickPend <;>
    simp [gatedCapture, holdStrobe, State.setInhibit, State.setTickPend, State.setTickStb, State.setLaHold, h, hp]

/-- A rate write changes one of the four rate registers (R203). -/
theorem writeRate_eq (s : State) (r : Fin 4) (v : S16) :
    writeRate s r v = if h : r.val < 2 then s.setCcRate ⟨r.val, h⟩ v
      else s.setFixedRate ⟨r.val - 2, by omega⟩ v := by
  unfold writeRate rateReg
  split_ifs <;> rfl

/-- What the settings byte's four bits become (R234, R247). -/
@[simp] theorem applySettings_ctl (s : State) (x : U8) : (applySettings s x).ctl =
    { s.ctl with run := x.getLsbD 0, dir := x.getLsbD 1, mix := x.getLsbD 2, click := x.getLsbD 3 } := rfl

@[simp] theorem applySettings_rest (s : State) (x : U8) :
    (applySettings s x).cfg = s.cfg ∧ (applySettings s x).eng = s.eng ∧ (applySettings s x).reqs = s.reqs ∧
      (applySettings s x).pat = s.pat ∧ (applySettings s x).nv = s.nv ∧ (applySettings s x).prog = s.prog ∧
      (applySettings s x).trace = s.trace ∧ (applySettings s x).samples = s.samples :=
  ⟨rfl, rfl, rfl, rfl, rfl, rfl, rfl, rfl⟩

/-- An unpacked byte gives bit k to the even step and bit 4+k to the odd step of track k, and changes no other flag
(R235, R239). -/
theorem unpackByte_flag (s : State) {even odd : PatIx} (b : U8) (hne : even ≠ odd) (k : TrackId) (x : PatIx) :
    (unpackByte s even odd b).flag k x =
      if x = even then b.getLsbD k.val else if x = odd then b.getLsbD (4 + k.val) else s.flag k x := by
  have hne' := Ne.symm hne
  simp only [unpackByte, setFlag_flag]
  by_cases he : x = even
  · subst he
    fin_cases k <;> simp [hne]
  · by_cases ho : x = odd
    · subst ho
      fin_cases k <;> simp [hne']
    · simp [he, ho]

/-- Unpacking a byte leaves everything but the flags. -/
theorem unpackByte_rest (s : State) (even odd : PatIx) (b : U8) :
    (unpackByte s even odd b).cfg = s.cfg ∧ (unpackByte s even odd b).eng = s.eng ∧
      (unpackByte s even odd b).reqs = s.reqs ∧ (unpackByte s even odd b).ctl = s.ctl ∧
      (unpackByte s even odd b).nv = s.nv ∧ (unpackByte s even odd b).prog = s.prog ∧
      (unpackByte s even odd b).trace = s.trace ∧ (unpackByte s even odd b).samples = s.samples := by
  simp [unpackByte]

/-- Everything one micro-operation can do when it gives a next state, by its kind. -/
def MicroEffect (u : MicroOp) (s t : State) : Prop :=
  match u with
  | .request k => t = s.setReq k
  | .capture => t = gatedCapture s
  | .recordFlag k b => ∃ x, recordIdx s.ctl.laHold b = some x ∧ t = s.setFlag k x true
  | .recordRate r b => ∃ x, recordIdx s.ctl.laHold b = some x ∧ t = s.setPitch r x (liveRate s r)
  | .clearFlag k x => t = s.setFlag k x false
  | .clearPitch p x => t = s.setPitch p x 0
  | .eraseDone => t = (s.setRun true).setRec false
  | .packFlags e o a => a < nvSize s.cfg ∧ t = s.setNv (Memory.write s.nv a (packByte s.pat.flags e o))
  | .packPitch p x a =>
    a < nvSize s.cfg ∧ t = s.setNv (Memory.write s.nv a (comp s.cfg.pitchShift (s.pitch p x)))
  | .readSettings => t = s.setProg (.writeSettings (Memory.read s.nv 3) :: s.prog)
  | .writeSettings x => t = s.setNv (Memory.write s.nv 3 (settingsByte (x.getLsbD 0) s.ctl.dir s.ctl.mix))
  | .writeBank => t = s.setNv (Memory.write s.nv 4 (s.ctl.bank.setWidth 8))
  | .writeChan => t = s.setNv (Memory.write s.nv 5 s.ctl.chan)
  | .writeSlot n => t = (s.setLastSlot n).setNv (Memory.write s.nv 2 (n.setWidth 8))
  | .unpackFlags e o a => t = unpackByte s e o (Memory.read s.nv a)
  | .unpackPitch p x a => t = s.setPitch p x (expand s.cfg.pitchShift (Memory.read s.nv a))
  | .bootMagic0 => t = s.setProg (.bootMagic1 (Memory.read s.nv 0) :: s.prog)
  | .bootMagic1 m0 =>
    t = s.setProg ((if magicOk s.cfg m0 (Memory.read s.nv 1) then restoreOps
      else factoryOps s.cfg ++ restoreOps) ++ s.prog)
  | .nvFill a b => a < nvSize s.cfg ∧ t = s.setNv (Memory.write s.nv a b)
  | .restoreSlot => t = s.setLastSlot ((Memory.read s.nv 2).setWidth 2)
  | .restoreSettings => t = applySettings s (Memory.read s.nv 3)
  | .restoreBank => t = s.setBank ((Memory.read s.nv 4).setWidth 2)
  | .restoreChan => t = (s.setChan (Memory.read s.nv 5)).setRun (forcedRun s.ctl.recArmed s.ctl.run)

theorem runMicro_next {u : MicroOp} (h : runMicro u s = .next t) : MicroEffect u s t := by
  cases u <;> simp only [runMicro] at h <;> simp only [MicroEffect]
  case request | capture | clearFlag | clearPitch | eraseDone => exact (Host.Outcome.next.inj h).symm
  case recordFlag | recordRate =>
    obtain ⟨x, hx, h⟩ := atRecordIdx_next h
    exact ⟨x, hx, (Host.Outcome.next.inj h).symm⟩
  case packFlags | packPitch | nvFill => exact nvWrite_next h
  case writeSettings | writeBank | writeChan => exact (nvWrite_next h).2
  case writeSlot => exact (nvWrite_next h).2
  case readSettings | unpackFlags | unpackPitch | bootMagic0 | bootMagic1 | restoreSlot | restoreSettings
      | restoreBank | restoreChan =>
    exact (Host.Outcome.next.inj (withNvByte_next h).2).symm

/-- Starting a command: nothing, or its first micro-operation with the rest put before what was left. -/
theorem issue_next {us : List MicroOp} (h : issue us s = .next t) :
    (us = [] ∧ t = s) ∨ ∃ u rest, us = u :: rest ∧ runMicro u (s.setProg (rest ++ s.prog)) = .next t := by
  cases us with
  | nil => exact .inl ⟨rfl, by simpa [issue] using h.symm⟩
  | cons u rest => exact .inr ⟨u, rest, rfl, h⟩

end Sys2Proof.Machine
end

