-- ==== Sys2Proof/Laws/PerInstr.lean ====
section
/-! SUPPORT. Statements made per instruction: the word an instruction encodes to lies in its own row of the opcode
table (R92, R94). -/

namespace Sys2Proof.Laws

/-- The row of the opcode table an instruction stands for. -/
def EncodesToItsRow.row : Instr → OpRow
  | .tick => ⟨"TICK", 0xFFFFFFFF, 0x01000000⟩
  | .trig _ => ⟨"TRIG", 0xFF00FFFF, 0x10000000⟩
  | .bank _ => ⟨"BANK", 0xFF00FFFF, 0x11000000⟩
  | .rate _ _ => ⟨"RATE", 0xFF000000, 0x12000000⟩
  | .live _ _ => ⟨"LIVE", 0xFF000000, 0x13000000⟩
  | .tempo _ => ⟨"TEMPO", 0xFFFF0000, 0x14000000⟩
  | .run _ => ⟨"RUN", 0xFF00FFFF, 0x15000000⟩
  | .record _ => ⟨"REC", 0xFF00FFFF, 0x16000000⟩
  | .erase => ⟨"ERASE", 0xFFFFFFFF, 0x17000000⟩
  | .dir => ⟨"DIR", 0xFFFFFFFF, 0x18000000⟩
  | .mix => ⟨"MIX", 0xFFFFFFFF, 0x19000000⟩
  | .click => ⟨"CLICK", 0xFFFFFFFF, 0x1A000000⟩
  | .ovr _ => ⟨"OVR", 0xFF00FFFF, 0x1B000000⟩
  | .rdla => ⟨"RDLA", 0xFFFFFFFF, 0x1C000000⟩
  | .prd _ _ => ⟨"PRD", 0xFF000000, 0x1D000000⟩
  | .chan _ => ⟨"CHAN", 0xFF00FFFF, 0x1E000000⟩
  | .div _ => ⟨"DIV", 0xFF00FFFF, 0x1F000000⟩
  | .save _ => ⟨"SAVE", 0xFF00FFFF, 0x20000000⟩
  | .load _ => ⟨"LOAD", 0xFF00FFFF, 0x21000000⟩
  | .boot => ⟨"BOOT", 0xFFFFFFFF, 0x22000000⟩
  | .mstart => ⟨"MSTART", 0xFFFFFFFF, 0x30000000⟩
  | .mstop => ⟨"MSTOP", 0xFFFFFFFF, 0x31000000⟩
  | .mcont => ⟨"MCONT", 0xFFFFFFFF, 0x32000000⟩
  | .mclk => ⟨"MCLK", 0xFFFFFFFF, 0x33000000⟩
  | .mnote _ _ => ⟨"MNOTE", 0xFF00FF00, 0x34000000⟩
  | .mcc _ _ _ => ⟨"MCC", 0xFF000000, 0x35000000⟩

/-- The word of the instruction is covered by its row, and the row is one of the table's. -/
def EncodesToItsRow.Statement (i : Instr) : Prop :=
  (EncodesToItsRow.row i).covers (encode i) = true ∧ EncodesToItsRow.row i ∈ opcodeTable

/-- A word that agrees with a row's pattern under the mask, field by field, is covered. -/
theorem covers_wordOf {m : String} {op a mo ma po pa : U8} {d md pd : BitVec 16} {mask pat : OpWord}
    (hm : mask = wordOf mo ma md) (hp : pat = wordOf po pa pd)
    (h1 : op &&& mo = po) (h2 : a &&& ma = pa) (h3 : d &&& md = pd) :
    (OpRow.mk m mask pat).covers (wordOf op a d) = true := by
  subst hm hp h1 h2 h3
  simp [OpRow.covers, wordOf_and]

/-- The row is a member of the table. -/
theorem row_mem (i : Instr) : EncodesToItsRow.row i ∈ opcodeTable := by
  cases i <;> simp [EncodesToItsRow.row, opcodeTable]

theorem EncodesToItsRow.tick : EncodesToItsRow.Statement .tick :=
  ⟨covers_wordOf (mo := 0xFF) (ma := 0xFF) (md := 0xFFFF) (po := 0x01) (pa := 0) (pd := 0)
    (by decide) (by decide) (by decide) (by decide) (by decide), row_mem _⟩

theorem EncodesToItsRow.trig (a : U8) : EncodesToItsRow.Statement (.trig a) :=
  ⟨covers_wordOf (mo := 0xFF) (ma := 0) (md := 0xFFFF) (po := 0x10) (pa := 0) (pd := 0)
    (by decide) (by decide) (by decide) (by simp) (by decide), row_mem _⟩

theorem EncodesToItsRow.bank (a : U8) : EncodesToItsRow.Statement (.bank a) :=
  ⟨covers_wordOf (mo := 0xFF) (ma := 0) (md := 0xFFFF) (po := 0x11) (pa := 0) (pd := 0)
    (by decide) (by decide) (by decide) (by simp) (by decide), row_mem _⟩

theorem EncodesToItsRow.rate (a : U8) (d : S16) : EncodesToItsRow.Statement (.rate a d) :=
  ⟨covers_wordOf (mo := 0xFF) (ma := 0) (md := 0) (po := 0x12) (pa := 0) (pd := 0)
    (by decide) (by decide) (by decide) (by simp) (by simp), row_mem _⟩

theorem EncodesToItsRow.live (a : U8) (d : S16) : EncodesToItsRow.Statement (.live a d) :=
  ⟨covers_wordOf (mo := 0xFF) (ma := 0) (md := 0) (po := 0x13) (pa := 0) (pd := 0)
    (by decide) (by decide) (by decide) (by simp) (by simp), row_mem _⟩

theorem EncodesToItsRow.tempo (d : U16) : EncodesToItsRow.Statement (.tempo d) :=
  ⟨covers_wordOf (mo := 0xFF) (ma := 0xFF) (md := 0) (po := 0x14) (pa := 0) (pd := 0)
    (by decide) (by decide) (by decide) (by decide) (by simp), row_mem _⟩

theorem EncodesToItsRow.run (a : U8) : EncodesToItsRow.Statement (.run a) :=
  ⟨covers_wordOf (mo := 0xFF) (ma := 0) (md := 0xFFFF) (po := 0x15) (pa := 0) (pd := 0)
    (by decide) (by decide) (by decide) (by simp) (by decide), row_mem _⟩

theorem EncodesToItsRow.record (a : U8) : EncodesToItsRow.Statement (.record a) :=
  ⟨covers_wordOf (mo := 0xFF) (ma := 0) (md := 0xFFFF) (po := 0x16) (pa := 0) (pd := 0)
    (by decide) (by decide) (by decide) (by simp) (by decide), row_mem _⟩

theorem EncodesToItsRow.erase : EncodesToItsRow.Statement .erase :=
  ⟨covers_wordOf (mo := 0xFF) (ma := 0xFF) (md := 0xFFFF) (po := 0x17) (pa := 0) (pd := 0)
    (by decide) (by decide) (by decide) (by decide) (by decide), row_mem _⟩

theorem EncodesToItsRow.dir : EncodesToItsRow.Statement .dir :=
  ⟨covers_wordOf (mo := 0xFF) (ma := 0xFF) (md := 0xFFFF) (po := 0x18) (pa := 0) (pd := 0)
    (by decide) (by decide) (by decide) (by decide) (by decide), row_mem _⟩

theorem EncodesToItsRow.mix : EncodesToItsRow.Statement .mix :=
  ⟨covers_wordOf (mo := 0xFF) (ma := 0xFF) (md := 0xFFFF) (po := 0x19) (pa := 0) (pd := 0)
    (by decide) (by decide) (by decide) (by decide) (by decide), row_mem _⟩

theorem EncodesToItsRow.click : EncodesToItsRow.Statement .click :=
  ⟨covers_wordOf (mo := 0xFF) (ma := 0xFF) (md := 0xFFFF) (po := 0x1A) (pa := 0) (pd := 0)
    (by decide) (by decide) (by decide) (by decide) (by decide), row_mem _⟩

theorem EncodesToItsRow.ovr (a : U8) : EncodesToItsRow.Statement (.ovr a) :=
  ⟨covers_wordOf (mo := 0xFF) (ma := 0) (md := 0xFFFF) (po := 0x1B) (pa := 0) (pd := 0)
    (by decide) (by decide) (by decide) (by simp) (by decide), row_mem _⟩

theorem EncodesToItsRow.rdla : EncodesToItsRow.Statement .rdla :=
  ⟨covers_wordOf (mo := 0xFF) (ma := 0xFF) (md := 0xFFFF) (po := 0x1C) (pa := 0) (pd := 0)
    (by decide) (by decide) (by decide) (by decide) (by decide), row_mem _⟩

theorem EncodesToItsRow.prd (a : U8) (d : U16) : EncodesToItsRow.Statement (.prd a d) :=
  ⟨covers_wordOf (mo := 0xFF) (ma := 0) (md := 0) (po := 0x1D) (pa := 0) (pd := 0)
    (by decide) (by decide) (by decide) (by simp) (by simp), row_mem _⟩

theorem EncodesToItsRow.chan (a : U8) : EncodesToItsRow.Statement (.chan a) :=
  ⟨covers_wordOf (mo := 0xFF) (ma := 0) (md := 0xFFFF) (po := 0x1E) (pa := 0) (pd := 0)
    (by decide) (by decide) (by decide) (by simp) (by decide), row_mem _⟩

theorem EncodesToItsRow.div (a : U8) : EncodesToItsRow.Statement (.div a) :=
  ⟨covers_wordOf (mo := 0xFF) (ma := 0) (md := 0xFFFF) (po := 0x1F) (pa := 0) (pd := 0)
    (by decide) (by decide) (by decide) (by simp) (by decide), row_mem _⟩

theorem EncodesToItsRow.save (a : U8) : EncodesToItsRow.Statement (.save a) :=
  ⟨covers_wordOf (mo := 0xFF) (ma := 0) (md := 0xFFFF) (po := 0x20) (pa := 0) (pd := 0)
    (by decide) (by decide) (by decide) (by simp) (by decide), row_mem _⟩

theorem EncodesToItsRow.load (a : U8) : EncodesToItsRow.Statement (.load a) :=
  ⟨covers_wordOf (mo := 0xFF) (ma := 0) (md := 0xFFFF) (po := 0x21) (pa := 0) (pd := 0)
    (by decide) (by decide) (by decide) (by simp) (by decide), row_mem _⟩

theorem EncodesToItsRow.boot : EncodesToItsRow.Statement .boot :=
  ⟨covers_wordOf (mo := 0xFF) (ma := 0xFF) (md := 0xFFFF) (po := 0x22) (pa := 0) (pd := 0)
    (by decide) (by decide) (by decide) (by decide) (by decide), row_mem _⟩

theorem EncodesToItsRow.mstart : EncodesToItsRow.Statement .mstart :=
  ⟨covers_wordOf (mo := 0xFF) (ma := 0xFF) (md := 0xFFFF) (po := 0x30) (pa := 0) (pd := 0)
    (by decide) (by decide) (by decide) (by decide) (by decide), row_mem _⟩

theorem EncodesToItsRow.mstop : EncodesToItsRow.Statement .mstop :=
  ⟨covers_wordOf (mo := 0xFF) (ma := 0xFF) (md := 0xFFFF) (po := 0x31) (pa := 0) (pd := 0)
    (by decide) (by decide) (by decide) (by decide) (by decide), row_mem _⟩

theorem EncodesToItsRow.mcont : EncodesToItsRow.Statement .mcont :=
  ⟨covers_wordOf (mo := 0xFF) (ma := 0xFF) (md := 0xFFFF) (po := 0x32) (pa := 0) (pd := 0)
    (by decide) (by decide) (by decide) (by decide) (by decide), row_mem _⟩

theorem EncodesToItsRow.mclk : EncodesToItsRow.Statement .mclk :=
  ⟨covers_wordOf (mo := 0xFF) (ma := 0xFF) (md := 0xFFFF) (po := 0x33) (pa := 0) (pd := 0)
    (by decide) (by decide) (by decide) (by decide) (by decide), row_mem _⟩

/-- The high byte of a zero-extended identifier is zero. -/
theorem zero_append_and (id : U8) : ((0 : U8) ++ id : BitVec 16) &&& 0xFF00 = 0 := by
  have h : (0xFF00 : BitVec 16) = (0xFF : U8) ++ (0 : U8) := by decide
  rw [h, BitVec.and_append]
  simp

theorem EncodesToItsRow.mnote (ch : U8) (id : U8) : EncodesToItsRow.Statement (.mnote ch id) :=
  ⟨covers_wordOf (mo := 0xFF) (ma := 0) (md := 0xFF00) (po := 0x34) (pa := 0) (pd := 0)
    (by decide) (by decide) (by decide) (by simp) (zero_append_and id), row_mem _⟩

theorem EncodesToItsRow.mcc (ch : U8) (id : U8) (value : U8) : EncodesToItsRow.Statement (.mcc ch id value) :=
  ⟨covers_wordOf (mo := 0xFF) (ma := 0) (md := 0) (po := 0x35) (pa := 0) (pd := 0)
    (by decide) (by decide) (by decide) (by simp) (by simp), row_mem _⟩

end Sys2Proof.Laws
end

