-- ==== Sys2Proof/Laws/Tick.lean ====
section
/-! SUPPORT. What a `TICK` does to each field of the state, phase by phase, so that a proof about one field
unfolds one phase. -/

namespace Sys2Proof.Machine

variable (s : State) (edge : Bool)

/-! ### What each phase leaves -/

@[simp] theorem phase1_rest : (phase1 s).cfg = s.cfg ∧ (phase1 s).reqs = s.reqs ∧ (phase1 s).ctl = s.ctl ∧
    (phase1 s).pat = s.pat ∧ (phase1 s).samples = s.samples := ⟨rfl, rfl, rfl, rfl, rfl⟩

@[simp] theorem phase2_rest : (phase2 edge s).cfg = s.cfg ∧ (phase2 edge s).ctl = s.ctl ∧
    (phase2 edge s).pat = s.pat ∧ (phase2 edge s).reqs.req = s.reqs.req ∧ (phase2 edge s).samples = s.samples :=
  ⟨rfl, rfl, rfl, rfl, rfl⟩

@[simp] theorem retrigger_rest : (retrigger edge s).cfg = s.cfg ∧ (retrigger edge s).reqs = s.reqs ∧
    (retrigger edge s).ctl = s.ctl ∧ (retrigger edge s).pat = s.pat ∧ (retrigger edge s).nv = s.nv ∧
    (retrigger edge s).prog = s.prog ∧ (retrigger edge s).inhibit = s.inhibit ∧
    (retrigger edge s).tickPend = s.tickPend ∧ (retrigger edge s).tickStb = s.tickStb ∧
    (retrigger edge s).sched = s.sched ∧ (retrigger edge s).trace = s.trace ∧
    (retrigger edge s).samples = s.samples := by
  unfold retrigger; split <;> simp

@[simp] theorem retrigger_eng : (retrigger edge s).eng =
    if clickHit edge s.ctl.click s.eng.pos then
      { s.eng with clickRate := clickTone s.cfg s.eng.pos, clickEnv := envMax s.cfg }
    else s.eng := by
  unfold retrigger; split <;> rfl

/-! ### What the whole tick leaves and writes -/

@[simp] theorem tick_cfg : (tick s).cfg = s.cfg := (retrigger_rest (afterVoices s) (stepEdge s)).1
@[simp] theorem tick_ctl : (tick s).ctl = s.ctl := (retrigger_rest (afterVoices s) (stepEdge s)).2.2.1
@[simp] theorem tick_pat : (tick s).pat = s.pat := (retrigger_rest (afterVoices s) (stepEdge s)).2.2.2.1
@[simp] theorem tick_nv : (tick s).nv = s.nv := (retrigger_rest (afterVoices s) (stepEdge s)).2.2.2.2.1
@[simp] theorem tick_prog : (tick s).prog = s.prog := (retrigger_rest (afterVoices s) (stepEdge s)).2.2.2.2.2.1
@[simp] theorem tick_inhibit : (tick s).inhibit = s.inhibit :=
  (retrigger_rest (afterVoices s) (stepEdge s)).2.2.2.2.2.2.1
@[simp] theorem tick_tickPend : (tick s).tickPend = s.tickPend :=
  (retrigger_rest (afterVoices s) (stepEdge s)).2.2.2.2.2.2.2.1
@[simp] theorem tick_tickStb : (tick s).tickStb = s.tickStb :=
  (retrigger_rest (afterVoices s) (stepEdge s)).2.2.2.2.2.2.2.2.1
@[simp] theorem tick_sched : (tick s).sched = s.sched :=
  (retrigger_rest (afterVoices s) (stepEdge s)).2.2.2.2.2.2.2.2.2.1
@[simp] theorem tick_trace : (tick s).trace = s.trace :=
  (retrigger_rest (afterVoices s) (stepEdge s)).2.2.2.2.2.2.2.2.2.2.1

/-- The request flags after a tick: none (R127, R130). -/
@[simp] theorem tick_reqs : (tick s).reqs = Requests.none := (retrigger_rest (afterVoices s) (stepEdge s)).2.1

/-- What phase 6 reads of the engine is what phases 1 to 4 left, but for the retrigger. -/
theorem tick_eng : (tick s).eng = (phase6 (stepEdge s) (afterVoices s)).eng := rfl

/-- Position and elapsed counter after a tick are phase 1's (R121 to R123). -/
@[simp] theorem tick_pos : (tick s).eng.pos = (seqOut s).pos := by
  simp only [tick, phase6, decayEnv, output, oscillate, retrigger_eng]; split <;> rfl
@[simp] theorem tick_elapsed : (tick s).eng.elapsed = (seqOut s).elapsed := by
  simp only [tick, phase6, decayEnv, output, oscillate, retrigger_eng]; split <;> rfl

/-- The lookahead after a tick is phase 1's (R124). -/
@[simp] theorem tick_la :
    (tick s).eng.la = lookahead s.ctl.tempo (seqOut s).elapsed (seqOut s).pos := by
  simp only [tick, phase6, decayEnv, output, oscillate, retrigger_eng]; split <;> rfl

/-- The voices after a tick are phase 4's. -/
@[simp] theorem tick_voices : (tick s).eng.voices = (afterVoices s).eng.voices := by
  simp only [tick, phase6, decayEnv, output, oscillate, retrigger_eng]; split <;> rfl

/-- The pitch rates after a tick are phase 3's. -/
@[simp] theorem tick_prate : (tick s).eng.prate = (afterVoices s).eng.prate := by
  simp only [tick, phase6, decayEnv, output, oscillate, retrigger_eng]; split <;> rfl

/-- Pulse counter and output line after a tick are phase 2's (R127). -/
@[simp] theorem tick_pulseCnt : (tick s).eng.pulseCnt = (phase2 (stepEdge s) (phase1 s)).eng.pulseCnt := by
  simp only [tick, phase6, decayEnv, output, oscillate, retrigger_eng]; split <;> rfl
@[simp] theorem tick_clkOut : (tick s).eng.clkOut = (phase2 (stepEdge s) (phase1 s)).eng.clkOut := by
  simp only [tick, phase6, decayEnv, output, oscillate, retrigger_eng]; split <;> rfl

/-- One sample is handed over, and it is `out` (R186). -/
theorem tick_samples : (tick s).samples = (tick s).eng.out :: s.samples := by
  simp only [tick, phase6, decayEnv, output, oscillate, retrigger_rest]; rfl

end Sys2Proof.Machine
end

