-- ==== Sys2Proof/Laws/Step.lean ====
section
/-! SUPPORT. Everything a step can do: which of a tick, a held strobe or a move of the control port it is,
and what loading a word or a trace leaves. -/

namespace Sys2Proof.Machine

variable {s t : State}

/-- A trace line goes on as its move does, and keeps its slot while the operation is unfinished. -/
theorem keepLine_next {rest : List Slot} {m : Result} (h : keepLine rest m = .next t) :
    ∃ u, m = .next u ∧ t = if u.prog = [] then u else u.setSched (.command :: rest) := by
  cases m with
  | next u => exact ⟨u, rfl, by simpa [keepLine] using h.symm⟩
  | fault r => cases h
  | refused r => cases h

/-- A step's next state is that of a tick, of a strobe held under a closed gate, or of a control-port move. -/
theorem step_next (h : step s = .next t) :
    s.cfg.wf = true ∧
      ((s.strobeDue = true ∧ t = tick s.takeStrobe) ∨
      (∃ r, s.strobeDue = false ∧ s.sched = .tick :: r ∧ s.inhibit = false ∧ t = tick (s.setSched r)) ∨
      (∃ r, s.strobeDue = false ∧ s.sched = .tick :: r ∧ s.inhibit = true ∧ t = (s.setSched r).setTickPend true) ∨
      (∃ r, s.strobeDue = false ∧ s.sched = .control :: r ∧ controlMove (s.setSched r) = .next t) ∨
      (∃ r u, s.strobeDue = false ∧ s.sched = .command :: r ∧ controlMove (s.setSched r) = .next u ∧
        t = if u.prog = [] then u else u.setSched (.command :: r)) ∨
      (∃ r, s.strobeDue = false ∧ s.sched = .overlap :: r ∧
        controlMove ((s.setSched r).setTickStb true) = .next t) ∨
      (s.strobeDue = false ∧ s.sched = [] ∧ controlMove s = .next t)) := by
  simp only [step, stepMachine] at h
  split at h
  case isFalse => cases h
  case isTrue hw =>
    refine ⟨hw, ?_⟩
    simp only [advanceMachine] at h
    split at h
    case isTrue hd =>
      simp only [exec, execTick, Host.Outcome.next.injEq] at h
      exact .inl ⟨hd, h.symm⟩
    case isFalse hd =>
      have hd : s.strobeDue = false := by simpa using hd
      split at h
      case h_1 r hr =>
        by_cases hi : s.inhibit = true
        · exact .inr (.inr (.inl ⟨r, hd, hr, hi, by simpa [strobe, hi] using h.symm⟩))
        · exact .inr (.inl ⟨r, hd, hr, by simpa using hi, by simpa [strobe, hi, exec, execTick] using h.symm⟩)
      case h_2 r hr => exact .inr (.inr (.inr (.inl ⟨r, hd, hr, h⟩)))
      case h_3 r hr =>
        obtain ⟨u, hu, rfl⟩ := keepLine_next h
        exact .inr (.inr (.inr (.inr (.inl ⟨r, u, hd, hr, hu, rfl⟩))))
      case h_4 r hr => exact .inr (.inr (.inr (.inr (.inr (.inl ⟨r, hd, hr, h⟩)))))
      case h_5 hr => exact .inr (.inr (.inr (.inr (.inr (.inr ⟨hd, hr, h⟩)))))

/-- A move's next state is that of a micro-operation, of the next word's operation, or the waiting port's. -/
theorem controlMove_next (h : controlMove s = .next t) :
    (∃ u us, s.prog = u :: us ∧ runMicro u (s.setProg us) = .next t) ∨
    (∃ w ws i, s.prog = [] ∧ s.trace = w :: ws ∧ decode w = .ok i ∧ i ≠ .tick ∧
      exec i (s.setTrace ws) = .next t) ∨
    (s.prog = [] ∧ s.trace = [] ∧ t = s) := by
  unfold controlMove at h
  split at h
  case h_1 u us hp => exact .inl ⟨u, us, hp, h⟩
  case h_2 hp =>
    unfold acceptWord at h
    split at h
    case h_1 ht => exact .inr (.inr ⟨hp, ht, by simpa using h.symm⟩)
    case h_2 w ws ht =>
      split at h
      case h_1 i hi =>
        split at h
        case isTrue => cases h
        case isFalse hn => exact .inr (.inl ⟨w, ws, i, hp, ht, hi, hn, h⟩)
      case h_2 => cases h

end Sys2Proof.Machine
end

