-- ==== Sys2Proof/Tests/Slice0.lean ====
section
/-! SUPPORT. Small tests. Every expected value is a vector of `spec/95_test_vectors.md`, named in the docstring, or
is worked out by hand from the rule named there; no value was taken from a run of the model. The last part shows,
for every obligation with hypotheses, a concrete state and operands that meet them. -/

namespace Sys2Proof.Tests

open Sys2Proof Sys2Proof.Machine

/-! ## Decoding: one word per operation, written field by field from R92 and R94 -/

/-- A word from its fields `op`, `a`, `d` (R91). -/
def fields (op a : BitVec 8) (d : BitVec 16) : OpWord := (op ++ a ++ d : BitVec (8 + 8 + 16))

/-- E1. -/
theorem test_decode_tick : decode (fields 0b00000001 0 0) = .ok .tick := by decide
/-- E2. -/
theorem test_decode_trig : decode (fields 0b00010000 0b00000010 0) = .ok (.trig 2) := by decide
/-- E3. -/
theorem test_decode_bank : decode (fields 0b00010001 0b00000011 0) = .ok (.bank 3) := by decide
/-- E5: -256 in two's complement. -/
theorem test_decode_rate : decode (fields 0b00010010 0b00000011 0b1111111100000000) =
    .ok (.rate 3 (BitVec.ofInt 16 (-256))) := by decide
/-- E6. -/
theorem test_decode_live : decode (fields 0b00010011 0b00000001 0b1111111111111111) =
    .ok (.live 1 (BitVec.ofInt 16 (-1))) := by decide
/-- E7. -/
theorem test_decode_tempo : decode (fields 0b00010100 0 0b0000000000001001) = .ok (.tempo 9) := by decide
/-- E8. -/
theorem test_decode_run : decode (fields 0b00010101 0b00000010 0) = .ok (.run 2) := by decide
/-- E9. -/
theorem test_decode_rec : decode (fields 0b00010110 0b00000001 0) = .ok (.record 1) := by decide
/-- E10. -/
theorem test_decode_erase : decode (fields 0b00010111 0 0) = .ok .erase := by decide
/-- E11. -/
theorem test_decode_dir : decode (fields 0b00011000 0 0) = .ok .dir := by decide
/-- E11. -/
theorem test_decode_mix : decode (fields 0b00011001 0 0) = .ok .mix := by decide
/-- E11. -/
theorem test_decode_click : decode (fields 0b00011010 0 0) = .ok .click := by decide
/-- E12. -/
theorem test_decode_ovr : decode (fields 0b00011011 0b00000001 0) = .ok (.ovr 1) := by decide
/-- E13. -/
theorem test_decode_rdla : decode (fields 0b00011100 0 0) = .ok .rdla := by decide
/-- E14. -/
theorem test_decode_prd : decode (fields 0b00011101 0b00000100 0b0000000000011111) = .ok (.prd 4 31) := by decide
/-- E15. -/
theorem test_decode_chan : decode (fields 0b00011110 0b00000101 0) = .ok (.chan 5) := by decide
/-- E15. -/
theorem test_decode_div : decode (fields 0b00011111 0b00000110 0) = .ok (.div 6) := by decide
/-- E16. -/
theorem test_decode_save : decode (fields 0b00100000 0b00000010 0) = .ok (.save 2) := by decide
/-- E16. -/
theorem test_decode_load : decode (fields 0b00100001 0b00000010 0) = .ok (.load 2) := by decide
/-- E16. -/
theorem test_decode_boot : decode (fields 0b00100010 0 0) = .ok .boot := by decide
/-- E17. -/
theorem test_decode_mstart : decode (fields 0b00110000 0 0) = .ok .mstart := by decide
/-- E17. -/
theorem test_decode_mstop : decode (fields 0b00110001 0 0) = .ok .mstop := by decide
/-- E17. -/
theorem test_decode_mcont : decode (fields 0b00110010 0 0) = .ok .mcont := by decide
/-- E17. -/
theorem test_decode_mclk : decode (fields 0b00110011 0 0) = .ok .mclk := by decide
/-- E18: the identifier is the low byte of the datum. -/
theorem test_decode_mnote : decode (fields 0b00110100 0 0b0000000000100100) = .ok (.mnote 0 0x24) := by decide
/-- E19: the identifier is the high byte of the datum, the value the low one. -/
theorem test_decode_mcc : decode (fields 0b00110101 0 0b0001000001000000) = .ok (.mcc 0 0x10 0x40) := by decide

/-- E20 to E24: the illegal words are refused, each for its own reason. -/
theorem test_decode_illegal :
    decode 0x00000000 = .error (.unknownOp 0) ∧ decode 0x10020001 = .error (.reservedField 0x10) ∧
    decode 0x17010000 = .error (.reservedField 0x17) ∧ decode 0x14010009 = .error (.reservedField 0x14) ∧
    decode 0x34000124 = .error (.reservedField 0x34) := by decide

/-- E25, E26: an argument outside the legal set is still an operation. -/
theorem test_decode_outside_legal_set :
    decode 0x10040000 = .ok (.trig 4) ∧ decode 0x20070000 = .ok (.save 7) := by decide

/-- R65: a serialised word has its most significant byte first. -/
theorem test_decode_bytes :
    decodeBytes [0x12, 0x00, 0x01, 0x00, 0xAA] = some (.ok (.rate 0 0x0100), [0xAA]) ∧
    decodeBytes [0x12, 0x00] = none ∧ wordBytes 0x12000100 = [0x12, 0x00, 0x01, 0x00] := by decide

/-- The table's word of `PRD 4, 31` decodes to it; a word of no row is refused. -/
theorem test_decode_table_word :
    decodeTableWord 32 0x1D04001F = some (.prd 4 31) ∧ decodeTableWord 32 0x02000000 = none := by decide

/-! ## Well-formedness: an ill-formed term for each check -/

theorem test_wf_reference : Config.reference.wf = true := by decide
theorem test_wf_fp_shift : ({ Config.reference with fpShift := 0 } : Cfg).fpShiftOk = false ∧
    ({ Config.reference with fpShift := 32 } : Cfg).wf = false := by decide
theorem test_wf_table_length :
    ({ Config.reference with voices := Config.reference.voices.set 1 { Config.reference.voices[1] with len := 5 } }
      : Cfg).tablesOk = false := by decide
theorem test_wf_len_range : VoiceCfg.tableOk 31 { Config.reference.voices[0] with tab := [1, 2, 3], len := 2 } = false ∧
    VoiceCfg.tableOk 31 { Config.reference.voices[0] with tab := [1, 2], len := 1 } = true := by decide
theorem test_wf_click_tab : ({ Config.reference with clickTab := [] } : Cfg).clickTabOk = false := by decide
theorem test_wf_click_env_shift : ({ Config.reference with clickEnvShift := 0 } : Cfg).clickEnvShiftOk = false ∧
    ({ Config.reference with clickEnvShift := 16 } : Cfg).wf = false := by decide
theorem test_wf_mix_shift : ({ Config.reference with mixShift := 8 } : Cfg).mixShiftOk = false := by decide
theorem test_wf_pulse_ticks : ({ Config.reference with pulseTicks := 0 } : Cfg).pulseTicksOk = false := by decide
theorem test_wf_pitch_shift : ({ Config.reference with pitchShift := 8 } : Cfg).pitchShiftOk = false := by decide
theorem test_wf_magic : ({ Config.reference with magic0 := 0, magic1 := 0 } : Cfg).magicOk = false ∧
    ({ Config.reference with magic0 := 0 } : Cfg).wf = true := by decide
theorem test_wf_hdr_size : ({ Config.reference with hdrSize := 5 } : Cfg).hdrSizeOk = false := by decide
theorem test_wf_slot_size : ({ Config.reference with slotSize := 79 } : Cfg).slotSizeOk = false := by decide
theorem test_wf_note_ids : ({ Config.reference with noteMix := 0x24 } : Cfg).noteIdsOk = false := by decide
theorem test_wf_cc_ids : ({ Config.reference with ccId := #v[1, 2, 3, 1] } : Cfg).ccIdsOk = false := by decide
theorem test_wf_binding :
    ({ Config.reference with voices := Config.reference.voices.set 4 Config.reference.voices[0] } : Cfg).bindingOk =
      false ∧
    ({ Config.reference with voices := Config.reference.voices.set 0 Config.reference.voices[4] } : Cfg).wf =
      false := by decide
/-- R94, "legal a": the last value inside and the first outside. -/
theorem test_wf_legal_set :
    (Instr.trig 3).inLegalSet = true ∧ (Instr.trig 4).inLegalSet = false ∧ (Instr.bank 4).inLegalSet = false ∧
    (Instr.rate 4 0).inLegalSet = false ∧ (Instr.live 2 0).inLegalSet = false ∧ (Instr.run 3).inLegalSet = false ∧
    (Instr.record 3).inLegalSet = false ∧ (Instr.ovr 2).inLegalSet = false ∧ (Instr.prd 6 0).inLegalSet = false ∧
    (Instr.prd 0 128).inLegalSet = false ∧ (Instr.prd 5 127).inLegalSet = true ∧
    (Instr.save 4).inLegalSet = false ∧ (Instr.load 4).inLegalSet = false := by decide

/-! ## Operand forms -/

/-- M1 to M12: fold-back and truncation. -/
theorem test_fold_back :
    [255, 256, 318, 350, 510, 0, -1, -64, -96, -255, 511, -256].map (fun p => truncate8 (foldBack p)) =
      [255, 254, 192, 160, 0, 0, 1, 64, 96, 255, 255, 0] := by decide
/-- M13 to M18: plain mode. -/
theorem test_plain_mix :
    [(10, 0), (-10, 0), (508, 0), (762, 127), (-768, -128), (0, -113)].map (fun p : Int × Int => plainMix 2 p.1 p.2) =
      [130, 125, 255, 350, -96, 99] := by decide
/-- M19, M21: the reference blend; M22 to M24: the XOR on the 16-bit pattern. -/
theorem test_accent_mix :
    noiseBlend Config.reference 0x3C 0xF0 255 = 47 ∧ noiseBlend Config.reference 0xF0 0xCC 253 = 189 ∧
    accentMix 128 47 = 175 ∧ accentMix 138 189 = 55 ∧ accentMix (-64) 0xFF = -193 ∧
    accentMix (-64) 0xC0 = -256 ∧ accentMix 256 0xFF = 511 := by decide
/-- M29 to M31: the click sample. -/
theorem test_click_sample :
    clickSample 8 0x0F 256 = -113 ∧ clickSample 8 0x3C 255 = -68 ∧ clickSample 8 0xCC 254 = 75 := by decide
/-- M26: the tones of the eight retriggering steps. -/
theorem test_click_tone :
    [0, 4, 8, 12, 16, 20, 24, 28].map (clickTone Config.reference) =
      [0x0300, 0x0100, 0x0200, 0x0100, 0x0200, 0x0100, 0x0200, 0x0100] := by decide
/-- X4: compression. -/
theorem test_comp :
    [0x0100, -1, 0x7FFF, -32768, 15, 16, -16, -17, 2047, 2048, -2048, -2049, 0x0123, 0].map
        (fun x => comp 4 (BitVec.ofInt 16 x)) =
      [0x10, 0xFF, 0x7F, 0x80, 0x00, 0x01, 0xFF, 0xFE, 0x7F, 0x7F, 0x80, 0x80, 0x12, 0x00] := by decide
/-- X5: expansion. -/
theorem test_expand :
    [0x10, 0xFF, 0x7F, 0x80, 0xFE, 0x12, 0x00].map (fun b => (expand 4 b).toInt) =
      [256, -16, 2032, -2048, -32, 288, 0] := by decide
/-- X1, B2 to B4, and index 31 of two banks (B5). -/
theorem test_layout :
    [0, 1, 2, 3].map (slotBase Config.reference) = [16, 112, 208, 304] ∧ nvSize Config.reference = 400 ∧
    patIdx 5 1 = 36 ∧ patIdx 5 2 = 68 ∧ patIdx 31 3 = 126 ∧ patIdx 31 0 = patIdx 0 1 := by decide
/-- A write that restores the unlisted value removes the cell; a new one goes to its place. -/
theorem test_memory_canonical :
    Memory.write [(2, 1), (5, 2)] 3 7 = [(2, 1), (3, 7), (5, 2)] ∧ Memory.write [(2, 1), (5, 2)] 2 0xFF = [(5, 2)] ∧
    Memory.wf [(2, 1), (5, 2)] = true ∧ Memory.wf [(5, 2), (2, 1)] = false ∧ Memory.wf [(2, 0xFF)] = false := by
  decide

/-! ## One step of each operation -/

/-- The outcome is a next state that passes a test. -/
def lands (r : Result) (p : State → Bool) : Bool :=
  match r with
  | .next t => p t
  | _ => false

/-- A landing is a next state with the property. -/
theorem lands_next {r : Result} {p : State → Bool} (h : lands r p = true) : ∃ t, r = .next t ∧ p t = true := by
  cases r with
  | next t => exact ⟨t, rfl, h⟩
  | fault f => simp [lands] at h
  | refused q => simp [lands] at h

/-- A small machine: reset, running at tempo 9, and a place in the bar. -/
def playing (pos : Step32) (elapsed : U16) : State :=
  { State.reset with
    eng := { State.reset.eng with pos := pos, elapsed := elapsed }
    ctl := { State.reset.ctl with tempo := 9, run := true } }

/-- The machine with recording armed and a captured lookahead still to make. -/
def armed (la : U16) : State :=
  { playing 0 6 with
    eng := { (playing 0 6).eng with la := la }
    ctl := { (playing 0 6).ctl with recArmed := true } }

/-- The machine after a factory reset, as far as the header goes. -/
def booted : State :=
  { State.reset with nv := [(0, 0xA5), (1, 0x5A), (2, 0), (3, 0), (4, 0), (5, 0)] }

/-- Q10 and K1: the position wraps to 0 with an edge, which starts the pulse. -/
theorem test_tick_wraps :
    lands (exec .tick (playing 31 9)) (fun t => t.eng.pos == 0 && t.eng.elapsed == 0 && t.eng.la == 0 &&
      t.eng.clkOut && t.eng.pulseCnt == 1 && t.eng.out == 128) = true := by decide
/-- Tick 8 of P2: all four flags fire, six voices start at table entry 1 (255), 318 folds to 192. -/
theorem test_tick_six_voices :
    lands (exec .tick
      { ((((((playing 0 3).setTempo 3).setFlag 0 1 true).setFlag 1 1 true).setFlag 2 1 true).setFlag 3 1 true
            |>.setPitch 0 1 256 |>.setPitch 1 1 256 |>.setCcRate 0 256 |>.setCcRate 1 256 |>.setFixedRate 0 256
            |>.setFixedRate 1 256) with
        cfg := { Config.reference with
          voices := Config.reference.voices.map (fun v => { v with tab := [128, 255, 255, 0, 0] }) } })
      (fun t => t.eng.out == 192 && t.eng.prate.toList == [256, 256] &&
        t.eng.voices.toList.all (fun v => v.act && v.idx == 1)) = true := by decide +kernel
/-- C1: not armed, the request alone. -/
theorem test_trig_request :
    lands (exec (.trig 2) State.reset) (fun t => t.reqs.req.toList == [false, false, true, false] && t.prog.isEmpty) =
      true := by decide
/-- C2: armed with `la = 1`, run to its end: the flag of step 1, and no rate write for track 2. -/
theorem test_trig_records :
    lands (perform (.trig 2) 2 (armed 1)) (fun t => t.flag 2 1 && t.ctl.laHold == 1 && t.prog.isEmpty) = true := by
  decide
theorem test_bank : lands (exec (.bank 3) State.reset) (fun t => t.ctl.bank == 3) = true := by decide
/-- C5. -/
theorem test_bank_outside : exec (.bank 4) State.reset = .next State.reset := rfl
/-- C13. -/
theorem test_rate_fixed :
    lands (exec (.rate 2 0x0100) State.reset) (fun t => t.ctl.fixedRate.toList == [256, 0]) = true := by decide
/-- C13. -/
theorem test_rate_cc : lands (exec (.rate 1 (BitVec.ofInt 16 (-256))) State.reset)
    (fun t => t.ctl.ccRate.toList.map BitVec.toInt == [0, -256]) = true := by decide
theorem test_live : lands (exec (.live 1 0x7FFF) State.reset) (fun t => t.ctl.liveIn.toList == [0, 0x7FFF]) = true := by
  decide
/-- C5. -/
theorem test_live_outside : exec (.live 2 1) State.reset = .next State.reset := rfl
/-- C14. -/
theorem test_tempo : lands (exec (.tempo 0xFFFF) State.reset) (fun t => t.ctl.tempo == 0xFFFF) = true := by
  decide
/-- C6: a toggle stops. -/
theorem test_run_toggle : lands (exec (.run 2) (playing 3 0)) (fun t => !t.ctl.run) = true := by decide
/-- C7: armed, the transport stays forced running. -/
theorem test_run_forced : lands (exec (.run 0) (armed 0)) (fun t => t.ctl.run) = true := by decide
/-- C8: arming starts the transport. -/
theorem test_rec_arms : lands (exec (.record 1) State.reset) (fun t => t.ctl.recArmed && t.ctl.run) = true := by
  decide
/-- C8: disarming leaves it running. -/
theorem test_rec_disarms : lands (exec (.record 0) (armed 0)) (fun t => !t.ctl.recArmed && t.ctl.run) = true := by
  decide
/-- R208: the first micro-operation clears track 0 at step 0, 128 are left; C10's shared index 31 is in the window. -/
theorem test_erase_starts :
    lands (exec .erase ((armed 0).setFlag 0 0 true)) (fun t => !t.flag 0 0 && t.prog.length == 128 &&
      t.prog.contains (.clearFlag 3 31) && !t.prog.contains (.clearFlag 0 32)) = true := by decide +kernel
/-- C12. -/
theorem test_dir : lands (exec .dir State.reset) (fun t => t.ctl.dir) = true := by decide
/-- C12. -/
theorem test_mix : lands (exec .mix State.reset) (fun t => t.ctl.mix) = true := by decide
/-- C12. -/
theorem test_click : lands (exec .click State.reset) (fun t => t.ctl.click) = true := by decide
theorem test_ovr : lands (exec (.ovr 1) State.reset) (fun t => t.ctl.ovr) = true := by decide
/-- C5. -/
theorem test_ovr_outside : exec (.ovr 2) State.reset = .next State.reset := rfl
/-- H3: stopped, the lookahead reads 31. -/
theorem test_rdla : lands (exec .rdla State.reset) (fun t => t.ctl.rsp == 31 && t.ctl.laHold == 31 && !t.inhibit) =
    true := by decide
/-- C11. -/
theorem test_prd : lands (exec (.prd 4 63) (State.reset.setPitch 0 63 (BitVec.ofInt 16 (-16))))
    (fun t => t.ctl.rsp == 0xFFF0) = true := by decide
/-- C5. -/
theorem test_prd_outside : exec (.prd 0 128) State.reset = .next State.reset := rfl
theorem test_chan : lands (exec (.chan 5) State.reset) (fun t => t.ctl.chan == 5) = true := by decide
/-- G4: `DIV` leaves the count. -/
theorem test_div : lands (exec (.div 3) (State.reset.setDivCnt 5)) (fun t => t.ctl.divN == 3 && t.ctl.divCnt == 5) =
    true := by decide
/-- X2: step 0 has tracks 0 and 2, step 1 track 3: the first byte of slot 1 is 0x85. -/
theorem test_save_starts :
    lands (exec (.save 1) (((State.reset.setFlag 0 0 true).setFlag 2 0 true).setFlag 3 1 true))
      (fun t => Memory.read t.nv 112 == 0x85 && t.prog.length == 83) = true := by decide
/-- X8: the persisted run bit is kept, `dir` and `mix` are saved, click is written 0. -/
theorem test_save_settings :
    lands (runMicro (.writeSettings 0x01) (((State.reset.setDir true).setMix true).setClick true))
      (fun t => Memory.read t.nv 3 == 0x07) = true := by decide
/-- R239: `LOAD` clears step 0 first; 271 micro-operations are left. -/
theorem test_load_starts :
    lands (exec (.load 0) (State.reset.setFlag 0 0 true)) (fun t => !t.flag 0 0 && t.prog.length == 271) = true := by
  decide +kernel
/-- P3 line 24: byte 0xA1 gives track 0 of the even step and tracks 1 and 3 of the odd one. -/
theorem test_load_unpacks :
    lands (runMicro (.unpackFlags 63 64 208) { State.reset with nv := [(208, 0xA1)] })
      (fun t => t.flag 0 63 && !t.flag 1 63 && !t.flag 2 63 && !t.flag 3 63 &&
        !t.flag 0 64 && t.flag 1 64 && !t.flag 2 64 && t.flag 3 64) = true := by decide
/-- X12: a good marker restores what the header holds. -/
theorem test_boot_restores :
    lands (perform .boot 5
      { State.reset with nv := [(0, 0xA5), (1, 0x5A), (2, 7), (4, 6), (5, 9)] })
      (fun t => t.ctl.lastSlot == 3 && t.ctl.run && t.ctl.dir && t.ctl.mix && t.ctl.click && t.ctl.bank == 2 &&
        t.ctl.chan == 9 && t.prog.isEmpty) = true := by decide
/-- X13: a swapped marker is a bad one: the factory reset's 401 writes and the restore's four are still to run. -/
theorem test_boot_bad_marker :
    lands (perform .boot 1 { State.reset with nv := [(0, 0x5A), (1, 0xA5)] })
      (fun t => t.prog.length == nvSize Config.reference + 1 + 4) = true := by decide +kernel
/-- G5. -/
theorem test_mstart : lands (exec .mstart (State.reset.setDivCnt 3)) (fun t => t.ctl.divCnt == 0 && t.ctl.run) =
    true := by decide
/-- G9. -/
theorem test_mstart_no_auto :
    lands (exec .mstart { State.reset.setDivCnt 3 with cfg := { Config.reference with autoStart := false } })
      (fun t => t.ctl.divCnt == 0 && !t.ctl.run) = true := by decide
/-- G6. -/
theorem test_mstop : lands (exec .mstop (playing 3 0)) (fun t => t.ctl.divCnt == 0 && t.reqs.pulseKill && !t.ctl.run) =
    true := by decide
/-- G7. -/
theorem test_mstop_armed : lands (exec .mstop (armed 0)) (fun t => t.reqs.pulseKill && t.ctl.run) = true := by
  decide
/-- G8. -/
theorem test_mcont : lands (exec .mcont (State.reset.setDivCnt 3)) (fun t => t.ctl.run && t.ctl.divCnt == 3) = true := by
  decide
/-- G4: 6 reaches 3. -/
theorem test_mclk_hit : lands (exec .mclk ((State.reset.setDivCnt 5).setDivN 3))
    (fun t => t.ctl.divCnt == 0 && t.reqs.pulseReq) = true := by decide
/-- G1, first message. -/
theorem test_mclk_counts : lands (exec .mclk (State.reset.setDivN 6))
    (fun t => t.ctl.divCnt == 1 && !t.reqs.pulseReq) = true := by decide
/-- G12: a bank note. -/
theorem test_mnote_bank : lands (exec (.mnote 0 0x29) State.reset) (fun t => t.ctl.bank == 1) = true := by
  decide
/-- G11: another channel. -/
theorem test_mnote_filtered : exec (.mnote 3 0x26) State.reset = .next State.reset := rfl
/-- G13. -/
theorem test_mcc : lands (exec (.mcc 0 0x10 0x7F) State.reset) (fun t => t.ctl.ccRate.toList == [0x07F0, 0]) = true := by
  decide
/-- G14: an identifier of no register. -/
theorem test_mcc_unmapped : exec (.mcc 0 0x14 5) State.reset = .next State.reset := rfl

/-! ## The step -/

/-- The fetched word is the very next thing that runs. -/
theorem test_step_fetches :
    lands (step (State.reset.withFetchWord 32 0x14000009)) (fun t => t.ctl.tempo == 9 && t.trace.isEmpty) = true := by
  decide
/-- R91: the word of `TICK` is placed as a strobe, which runs one tick. -/
theorem test_step_fetches_tick :
    lands (step (State.reset.withFetchWord 32 0x01000000)) (fun t => t.samples == [128] && t.sched.isEmpty) = true := by
  decide
/-- R91, R95, U8: on the control port the word of `TICK` is refused. -/
theorem test_step_tick_on_port :
    step { State.reset with trace := [0x01000000] } = .refused .tickOnPort := rfl
/-- R97: the lines of a trace become strobes and operations; R98: `AT 2: TICKS 1`. -/
theorem test_trace_lines :
    (placeTrace State.reset [0x14000009, 0x01000000, 0x11030000]).sched = [.command, .tick, .command] ∧
    (placeTrace State.reset [0x14000009, 0x01000000, 0x11030000]).trace = [0x14000009, 0x11030000] ∧
    atSlots 2 1 = [.control, .control, .tick, .command] := by decide
/-- R97: a line keeps its slot until its operation is finished, then gives it up. -/
theorem test_trace_line_finishes :
    lands (step (placeTrace (armed 1) [0x10020000])) (fun t => t.sched == [.command] && t.prog.length == 2) = true ∧
    lands (step (placeTrace (armed 1) [0x11030000])) (fun t => t.sched.isEmpty) = true := by decide
/-- H4 and R265: a strobe under the gate is held; the tick comes next and the captured value stays. -/
theorem test_step_gate :
    lands (step { armed 1 with prog := [.capture, .recordFlag 2 0], sched := [.overlap] })
      (fun t => t.tickPend && t.ctl.laHold == 1 && t.samples.isEmpty &&
        lands (step t) (fun u => !u.tickPend && u.samples.length == 1 && u.ctl.laHold == 1)) = true := by decide

/-! ## Witnesses: for every obligation with hypotheses, a state and operands that meet them together -/

/-- A landing, as the equation a hypothesis asks for. -/
theorem next_of_lands {r : Result} {p : State → Bool} (h : lands r p = true) : ∃ t, r = .next t :=
  let ⟨t, ht, _⟩ := lands_next h
  ⟨t, ht⟩

/-- Armed and running, voice 1 playing at its table's second entry, some of the header written, and part of an armed
`TRIG` still to run: a state other than reset that meets the invariant. -/
def sounding : State :=
  { armed 1 with
    eng := { (armed 1).eng with voices := (armed 1).eng.voices.set 1 { acc := 0x100, idx := 1, act := true } }
    nv := [(0, 0xA5), (3, 2)]
    prog := [.recordFlag 2 0] }

/-- `sounding` meets the invariant. -/
theorem inv_sounding : Inv sounding where
  cfgOk := by decide
  voices := by unfold voiceOk; decide
  la := by decide
  laHold := by decide
  clickEnv := by decide
  pulse := by decide
  nvCanonical := by decide
  nvBounded := by decide
  gateOpen := rfl
  progBounded := by
    intro u hu a ha
    simp [sounding] at hu
    subst hu
    simp [MicroOp.namedAddr] at ha
  progClosed := by decide
  forced := fun _ => Or.inl rfl

/-- The invariant does not read the trace. -/
theorem inv_setTrace {s : State} (h : Inv s) (l : List OpWord) : Inv { s with trace := l } :=
  ⟨h.cfgOk, h.voices, h.la, h.laHold, h.clickEnv, h.pulse, h.nvCanonical, h.nvBounded, h.gateOpen, h.progBounded,
    h.progClosed, h.forced⟩

/-- `sounding` with its command finished. -/
def rested : State := { sounding with prog := [] }

/-- `rested` meets the invariant too. -/
theorem inv_rested : Inv rested :=
  ⟨inv_sounding.cfgOk, inv_sounding.voices, inv_sounding.la, inv_sounding.laHold, inv_sounding.clickEnv,
    inv_sounding.pulse, inv_sounding.nvCanonical, inv_sounding.nvBounded, rfl, by simp [rested], rfl,
    fun _ => Or.inl rfl⟩

/-- EncodeInvertsDecode: an operation with an operand at its largest value. -/
theorem witness_encode_inverts_decode : decode 0x1DFFFFFF = .ok (.prd 0xFF 0xFFFF) := by decide

/-- LegalWordsAreTheTableRows, second clause: a word of a row. -/
theorem witness_legal_words :
    ∃ r ∈ opcodeTable, ∃ q ∈ opcodeTable, r.covers 0x340000FF = true ∧ q.covers 0x340000FF = true := by decide

/-- StepRunsTheDecodedInstruction: its clauses. -/
theorem witness_step_decoded :
    let s : State := { State.reset with trace := [0x14000009] }
    (s.cfg.wf = true ∧ s.strobeDue = false ∧ s.prog = [] ∧ s.trace = 0x14000009 :: [] ∧
      decode 0x14000009 = .ok (.tempo 9) ∧ Instr.tempo 9 ≠ .tick ∧ s.sched = []) ∧
    ({ s with sched := [.control] } : State).strobeDue = false ∧
    ({ s with sched := [.overlap] } : State).strobeDue = false ∧
    ({ s with sched := [.command] } : State).strobeDue = false ∧
    ({ s with sched := [.tick] } : State).strobeDue = false ∧ s.inhibit = false := by decide

/-- StepRunsTheDecodedInstruction and StepRunsTheNextMicroOperation: in the last clause the operation goes on to a
next state, finished or not. -/
theorem witness_step_line :
    lands (exec (.tempo 9) { State.reset with trace := [], sched := [.tick] }) (fun t => t.prog.isEmpty) = true ∧
    lands (exec (.trig 2) { armed 1 with trace := [], sched := [] }) (fun t => !t.prog.isEmpty) = true ∧
    lands (runMicro (.recordFlag 2 0) { sounding with prog := [], sched := [] }) (fun t => t.prog.isEmpty) = true := by
  decide

/-- StepRunsTheNextMicroOperation: its clauses. -/
theorem witness_step_micro :
    sounding.cfg.wf = true ∧ sounding.strobeDue = false ∧ sounding.prog = .recordFlag 2 0 :: [] ∧ sounding.sched = [] ∧
    ({ sounding with sched := [.control] } : State).strobeDue = false ∧
    ({ sounding with sched := [.overlap] } : State).strobeDue = false ∧
    ({ sounding with sched := [.command] } : State).strobeDue = false := by decide

/-- IllegalWordsAndConfigurationsAreRefused: both clauses. -/
theorem witness_refused :
    let s : State := { State.reset with trace := [0x10020001] }
    (s.cfg.wf = true ∧ s.quiet ∧ s.prog = [] ∧ s.trace = 0x10020001 :: [] ∧
      decode 0x10020001 = .error (.reservedField 0x10)) ∧
    ({ s with trace := [0x01000000] } : State).quiet ∧ decode 0x01000000 = .ok .tick ∧
    ({ State.reset with cfg := { Config.reference with mixShift := 8 } } : State).cfg.wf = false := by
  refine ⟨⟨by decide, ⟨rfl, rfl, rfl, rfl⟩, rfl, rfl, by decide⟩, ⟨rfl, rfl, rfl, rfl⟩, by decide, by decide⟩

/-- IdleMachineWaits. -/
theorem witness_idle : rested.cfg.wf = true ∧ rested.quiet ∧ rested.prog = [] ∧ rested.trace = [] :=
  ⟨by decide, ⟨rfl, rfl, rfl, rfl⟩, rfl, rfl⟩

/-- StrobeAtABoundaryRunsAWholeTick: in the middle of a command. -/
theorem witness_strobe_boundary :
    let s : State := { sounding with sched := [.tick, .control] }
    s.cfg.wf = true ∧ s.inhibit = false ∧ s.tickPend = false ∧ s.tickStb = false ∧ s.sched = .tick :: [.control] := by
  decide

/-- StrobeUnderTheGateIsHeldAndTakenNext. -/
theorem witness_strobe_gate :
    let s : State := { armed 1 with prog := [.capture, .recordFlag 2 0], sched := [.overlap] }
    s.cfg.wf = true ∧ s.inhibit = false ∧ s.tickPend = false ∧ s.tickStb = false ∧
      s.prog = .capture :: [.recordFlag 2 0] ∧ s.sched = .overlap :: [] := by decide

/-- OverlappingStrobeIsNeverLost. -/
theorem witness_overlap :
    let s : State := { sounding with sched := [.overlap] }
    (s.cfg.wf = true ∧ s.inhibit = false ∧ s.tickPend = false ∧ s.tickStb = false ∧ s.sched = .overlap :: []) ∧
      ∃ t, step s = .next t :=
  ⟨by decide, next_of_lands (p := fun _ => true) (by decide)⟩

/-- EveryStepIsATickOrLeavesTheEngine: a step of each kind. -/
theorem witness_step_kinds :
    (∃ t, step { sounding with tickStb := true } = .next t ∧ t.samples.length = 1) ∧
    ∃ t, step sounding = .next t ∧ t.samples.length = 0 := by
  have h1 := lands_next (r := step { sounding with tickStb := true }) (p := fun t => t.samples.length == 1)
    (by decide)
  have h2 := lands_next (r := step sounding) (p := fun t => t.samples.length == 0) (by decide)
  simpa using And.intro h1 h2

/-- EveryStepKeepsTheInvariant: a tick and a micro-operation from a state with a sounding voice. -/
theorem witness_invariant :
    Inv sounding ∧ (∃ t, step sounding = .next t) ∧ ∃ t, step { sounding with sched := [.tick] } = .next t :=
  ⟨inv_sounding, next_of_lands (p := fun _ => true) (by decide),
    next_of_lands (p := fun _ => true) (by decide)⟩

/-- NoStepFaults: the refusals its second clause speaks of do occur. -/
theorem witness_no_fault :
    (Inv { rested with trace := [0] } ∧
      step { rested with trace := [0] } = .refused (.illegalWord 0 (.unknownOp 0))) ∧
    Inv { rested with trace := [0x01000000] } ∧
      step { rested with trace := [0x01000000] } = .refused .tickOnPort :=
  ⟨⟨inv_setTrace inv_rested [0], rfl⟩, inv_setTrace inv_rested [0x01000000], rfl⟩

/-- ArmedImpliesRunningBetweenOperations. -/
theorem witness_armed_running :
    Inv sounding ∧ ∃ t, step sounding = .next t ∧ t.prog = [] ∧ t.ctl.recArmed = true := by
  refine ⟨inv_sounding, ?_⟩
  have h := lands_next (r := step sounding) (p := fun t => t.prog.isEmpty && t.ctl.recArmed) (by decide)
  simpa using h

/-- PersistedRunBitStaysClear: with a write of the settings byte still to run. -/
theorem witness_run_bit :
    RunBitClear { rested with prog := [.writeSettings 2] } ∧
      ∃ t, step { rested with prog := [.writeSettings 2] } = .next t :=
  ⟨⟨by decide, by decide, by decide, by simp, by simp, by simp⟩,
    next_of_lands (p := fun _ => true) (by decide)⟩

/-- ControlPortNeverWritesTheEngine: both clauses. -/
theorem witness_control_port :
    (Instr.trig 2 ≠ .tick ∧ ∃ t, exec (.trig 2) sounding = .next t) ∧ ∃ t, runMicro (.request 3) sounding = .next t :=
  ⟨⟨by decide, _, rfl⟩, _, rfl⟩

/-- ControlPortLearnsOnlyTheLookahead: two states that differ in the tick engine; in the first the lookaheads agree,
in the second they differ and the next move reads none. -/
theorem witness_learns :
    (sameControl sounding { sounding with eng := { sounding.eng with pos := 7 } } ∧ sounding.eng.la = 1) ∧
    sameControl sounding { sounding with eng := { sounding.eng with la := 7 } } ∧
      (∀ us, sounding.prog ≠ .capture :: us) ∧
      (sounding.prog = [] → ∀ w ws, sounding.trace = w :: ws → decode w ≠ .ok .rdla) :=
  ⟨⟨⟨rfl, rfl, rfl, rfl, rfl, rfl⟩, rfl⟩, ⟨rfl, rfl, rfl, rfl, rfl, rfl⟩, by simp [sounding], by simp [sounding]⟩

/-- TicksInsideACommandLeaveItsResult. -/
theorem witness_ticks_inside : sounding.trace = [] ∧ MicroOp.capture ∉ sounding.prog ∧ [true, false].count false = 1 := by
  decide

/-- PersistedBytesChangeOnlyWhereStored: a store, and an address it does not store to. -/
theorem witness_persisted :
    (∃ t, runMicro .writeChan sounding = .next t) ∧ MicroOp.writeChan.storeAddr ≠ some 4 ∧
    (∃ t, exec (.save 1) rested = .next t) ∧ fourArg 1 = some 1 ∧
      (113 : Nat) ≠ rested.cfg.hdrSize + (1 : Fin 4).val * rested.cfg.slotSize :=
  ⟨next_of_lands (p := fun _ => true) (by decide), by decide,
    next_of_lands (p := fun _ => true) (by decide), by decide, by decide⟩

/-- RunningTickAdvancesPastTempo: the last tick that holds and the first that advances. -/
theorem witness_running_tick :
    ((playing 4 8).ctl.run = true ∧ (playing 4 8).ctl.ovr = false ∧
      ¬ (playing 4 8).ctl.tempo.toNat < ((playing 4 8).eng.elapsed.toNat + 1) % 2 ^ 16) ∧
    (playing 4 9).ctl.tempo.toNat < ((playing 4 9).eng.elapsed.toNat + 1) % 2 ^ 16 := by decide

/-- StoppedTickForcesAndOverrideHolds: both clauses. -/
theorem witness_stopped_tick :
    State.reset.ctl.run = false ∧ ((playing 4 7).setOvr true).ctl.run = true ∧ ((playing 4 7).setOvr true).ctl.ovr = true := by
  decide

/-- PositionDecreasesOnlyByWraparound: a step that decreases it. -/
theorem witness_position :
    ∃ t, step { playing 31 9 with sched := [.tick] } = .next t ∧ t.eng.pos.toNat < (31 : Step32).toNat := by
  have h := lands_next (r := step { playing 31 9 with sched := [.tick] })
    (p := fun t => decide (t.eng.pos.toNat < (31 : Step32).toNat)) (by decide)
  simpa using h

/-- StepPeriodIsTempoPlusOne: both clauses, the first with its smallest and its largest tempo. -/
theorem witness_step_period :
    ((playing 4 0).ctl.run = true ∧ (playing 4 0).ctl.ovr = false ∧ (playing 4 0).eng.elapsed = 0 ∧
      (playing 4 0).ctl.tempo.toNat < 65535) ∧
    ((playing 4 0).setTempo 0).ctl.tempo.toNat < 65535 ∧ ((playing 4 0).setTempo 0xFFFE).ctl.tempo.toNat < 65535 ∧
    ((playing 4 0).setTempo 0xFFFF).ctl.tempo = 0xFFFF := by decide

/-- B8: an edge to step 5 with track 0's flag set. -/
def flagged : State := ((playing 4 9).setFlag 0 5 true).setPitch 0 5 0x0200

/-- TickPlaysEachVoice: a voice that fires by its step flag, and one that stays off. -/
theorem witness_voice_fires :
    (latches flagged 0 = true ∧ latches flagged 2 = false) ∧ (flagged.eng.voices[(2 : VoiceId)]).act = false := by
  decide

/-- TickLoadsThePitchRates: PitchVoice 0 fires, PitchVoice 1 does not. -/
theorem witness_pitch_rates :
    ((flagged.cfg.voices[(4 : VoiceId)]).vrsrc = .seq 0 ∧ latches flagged 4 = true) ∧
    ∀ v : VoiceId, (flagged.cfg.voices[v]).vrsrc = .seq 1 → latches flagged v = false := by decide

/-- VoiceUnlatchesAtItsTableLength: B7, a manual request with the transport stopped, one table entry a tick. -/
theorem witness_unlatch_manual :
    let s := (State.reset.setReq 2).setFixedRate 0 0x0100
    s.cfg.wf = true ∧ latches s 2 = true ∧ ((s.cfg.voices[(2 : VoiceId)]).len).toNat = 4 ∧
      (∀ j : Fin 5, 0 < j.val → latches (ticks j.val s) 2 = false) ∧
      ∀ j : Fin 5, (playRate (ticks j.val s) 2).toInt = 2 ^ s.cfg.fpShift := by decide +kernel

/-- VoiceUnlatchesAtItsTableLength: B8, a PitchVoice by its step flag while running. -/
theorem witness_unlatch_edge :
    let s := flagged.setPitch 0 5 0x0100
    s.cfg.wf = true ∧ latches s 4 = true ∧ ((s.cfg.voices[(4 : VoiceId)]).len).toNat = 4 ∧
      (∀ j : Fin 5, 0 < j.val → latches (ticks j.val s) 4 = false) ∧
      ∀ j : Fin 5, (playRate (ticks j.val s) 4).toInt = 2 ^ s.cfg.fpShift := by decide +kernel

/-- PlainModeSample: a voice on, in either direction, and a mixed value at each end of the single reflection. -/
theorem witness_plain :
    (sounding.cfg.wf = true ∧ sounding.ctl.mix = false ∧
      ((tick sounding).eng.voices[(1 : VoiceId)]).act = true ∧ (sounding.setDir true).ctl.mix = false) ∧
    (-255 : Int) ≤ -255 ∧ (510 : Int) ≤ 510 := by decide

/-- AccentModeSample: no voice latched after the tick, and one latched after it; an envelope of 0, one at its
maximum, and another blend. -/
theorem witness_accent :
    State.reset.cfg.wf = true ∧ State.reset.cfg.noiseBlend = .reference ∧
    ({ Config.reference with noiseBlend := .other 1 } : Cfg).wf = true ∧
    envelopeUsed (State.reset.setMix true) = 0 ∧
    envelopeUsed ((playing 31 9).setClick true) = 2 ^ (playing 31 9).cfg.clickEnvShift ∧
    (State.reset.setMix true).ctl.mix = true ∧
    (∀ v : VoiceId, ((tick (State.reset.setMix true)).eng.voices[v]).act = false) ∧
    (sounding.setMix true).ctl.mix = true ∧
    ((tick (sounding.setMix true)).eng.voices[(1 : VoiceId)]).act = true := by decide

/-- SilenceIsTheMidLevel: noise-accent mode, with the click bit on. -/
theorem witness_silence :
    let s := (State.reset.setMix true).setClick true
    s.eng.clickEnv = 0 ∧ clickHit (stepEdge s) s.ctl.click (tick s).eng.pos = false ∧
      ∀ v : VoiceId, ((tick s).eng.voices[v]).act = false := by decide

/-- FoldBackReflectsOnce: each clause at its boundary. -/
theorem witness_fold_back :
    (255 : Int) < 256 ∧ (-1 : Int) < 0 ∧ (0 : Int) ≤ 0 ∧ (255 : Int) ≤ 255 ∧ (-255 : Int) ≤ -255 ∧ (510 : Int) ≤ 510 := by
  decide

/-- TrigRaisesItsRequest: the last legal argument and the first outside. -/
theorem witness_trig : (3 : U8).toNat = (3 : TrackId).val ∧ 4 ≤ (4 : U8).toNat := by decide

/-- ArmedTrigRecordsAtTheLookahead: a live track and one that is not, at the largest lookahead. -/
theorem witness_armed_trig :
    (0 : U8).toNat = (0 : TrackId).val ∧ (3 : U8).toNat = (3 : TrackId).val ∧ (armed 31).ctl.recArmed = true ∧
      (armed 31).prog = [] ∧ (armed 31).eng.la.toNat < 32 ∧ (armed 31).tickStb = false ∧
      (armed 31).cfg.trkLive[(0 : TrackId)] = some 0 ∧ (armed 31).cfg.trkLive[(3 : TrackId)] = none := by decide

/-- RecordedFlagLandsAtPositionOrNext: the tick leaves an elapsed counter past half the tempo, or one before it. -/
theorem witness_recorded :
    ((3 : U8).toNat = (3 : TrackId).val ∧ (armed 1).ctl.recArmed = true ∧ (armed 1).prog = [] ∧
      (armed 1).ctl.tempo.toNat / 2 < (tick (armed 1)).eng.elapsed.toNat) ∧
    ((playing 4 3).setRec true).ctl.recArmed = true ∧
      ¬ ((playing 4 3).setRec true).ctl.tempo.toNat / 2 < (tick ((playing 4 3).setRec true)).eng.elapsed.toNat := by
  decide

/-- PrdReadsOneElement: the three clauses at the ends of their ranges. -/
theorem witness_prd :
    ((3 : U8).toNat = (3 : TrackId).val ∧ (127 : U16).toNat = (127 : PatIx).val) ∧
    (5 : U8).toNat = 4 + (1 : PairId).val ∧ 6 ≤ (6 : U8).toNat ∧ 128 ≤ (128 : U16).toNat := by decide

/-- EraseClearsTheWindow: index 31 is in the windows of banks 0 and 1 (R62), 127 in none. -/
theorem witness_erase :
    (rested.setBank 3).prog = [] ∧ (rested.ctl.bank = 0 ∧ (31 : PatIx).val ≤ 31) ∧
    ((rested.setBank 1).ctl.bank = 1 ∧ 31 ≤ (31 : PatIx).val) ∧
    ((rested.setBank 3).ctl.bank = 3 ∧ 95 ≤ (126 : PatIx).val ∧ ¬ (127 : PatIx).val ≤ 126) := by decide

/-- SaveWritesTheRecord: both clauses; a step index and a pitch index at the end of the last window, an address before
the record and the first one behind it. -/
theorem witness_save :
    4 ≤ (4 : U8).toNat ∧ (rested.cfg.wf = true ∧ Memory.wf rested.nv = true ∧ rested.prog = [] ∧
      (3 : U8).toNat = (3 : Fin 4).val) ∧
    (126 : PatIx).val = windowFirst 3 + 2 * (15 : Fin 16).val + 1 ∧ (126 : PatIx).val = windowFirst 3 + (31 : Fin 32).val ∧
    303 < rested.cfg.hdrSize + (3 : Fin 4).val * rested.cfg.slotSize ∧
    rested.cfg.hdrSize + (3 : Fin 4).val * rested.cfg.slotSize + 80 ≤ 384 := by decide

/-- SavingTwiceStoresTheSameBytes. -/
theorem witness_save_twice :
    rested.cfg.wf = true ∧ Memory.wf rested.nv = true ∧ rested.prog = [] ∧ (2 : U8).toNat = (2 : Fin 4).val := by decide

/-- LoadReplacesTheWindow: both clauses, an index in the window of bank 1 and one outside it. -/
theorem witness_load :
    4 ≤ (4 : U8).toNat ∧ rested.cfg.wf = true ∧ rested.prog = [] ∧ (3 : U8).toNat = (3 : Fin 4).val ∧
    (31 : PatIx).val = windowFirst 1 + 2 * (0 : Fin 16).val ∧ ¬ (windowFirst 1 ≤ (30 : PatIx).val) := by decide

/-- SaveThenLoadReturnsThePattern: the loading state differs from the saving one in its arrays; a value at each end of
what the clamp leaves. -/
theorem witness_save_then_load :
    ∃ s t u : State, s.cfg.wf = true ∧ Memory.wf s.nv = true ∧ s.prog = [] ∧ (2 : U8).toNat = (2 : Fin 4).val ∧
      perform (.save 2) 84 s = .next t ∧ u.cfg = t.cfg ∧ u.nv = t.nv ∧ u.ctl.bank = t.ctl.bank ∧ u.prog = [] ∧
      (s.pitch 0 0).toInt = -128 * 2 ^ s.cfg.pitchShift ∧ (s.pitch 1 0).toInt = 128 * 2 ^ s.cfg.pitchShift - 1 := by
  have h := next_of_lands (r := perform (.save 2) 84
    ((booted.setPitch 0 0 (BitVec.ofInt 16 (-2048))).setPitch 1 0 2047)) (p := fun _ => true) (by decide)
  obtain ⟨t, ht⟩ := h
  exact ⟨_, t, { t with pat := Pattern.zero, prog := [] }, by decide, by decide, rfl, by decide, ht, rfl, rfl, rfl, rfl,
    by decide, by decide +kernel⟩

/-- BootRestoresAGoodRegion. -/
theorem witness_boot_good :
    booted.cfg.wf = true ∧ booted.prog = [] ∧ Memory.read booted.nv 0 = booted.cfg.magic0 ∧
      Memory.read booted.nv 1 = booted.cfg.magic1 := by decide

/-- BootResetsABadRegion: either byte wrong. -/
theorem witness_boot_bad :
    (State.reset.cfg.wf = true ∧ Memory.wf State.reset.nv = true ∧ State.reset.prog = [] ∧
      Memory.read State.reset.nv 0 ≠ State.reset.cfg.magic0) ∧
    Memory.wf [(0, 0xA5), (1, 0xA5)] = true ∧ Memory.read [(0, 0xA5), (1, 0xA5)] 1 ≠ State.reset.cfg.magic1 := by decide

/-- CodecCommandsStart: the last legal slot and the first outside. -/
theorem witness_codec : sounding.cfg.wf = true ∧ (3 : U8).toNat < 4 ∧ 4 ≤ (4 : U8).toNat := by decide

/-- ClockMessageCountsWhileStopped: both clauses, the second on either side of N. -/
theorem witness_clock :
    (playing 0 0).ctl.run = true ∧ State.reset.ctl.run = false ∧
    ((State.reset.setDivN 6).setDivCnt 5).ctl.divN.toNat ≤ (((State.reset.setDivN 6).setDivCnt 5).ctl.divCnt.toNat + 1) % 256 ∧
    ¬ ((State.reset.setDivN 6).setDivCnt 4).ctl.divN.toNat ≤
      (((State.reset.setDivN 6).setDivCnt 4).ctl.divCnt.toNat + 1) % 256 := by decide

/-- EveryNthClockMessageHits: the smallest and the largest N. -/
theorem witness_every_nth :
    (State.reset.setDivN 1).ctl.run = false ∧ (State.reset.setDivN 1).ctl.divCnt = 0 ∧
      0 < (State.reset.setDivN 1).ctl.divN.toNat ∧ 0 < (State.reset.setDivN 255).ctl.divN.toNat := by decide

/-- NoteMessagePerformsItsOperation: another channel, each kind of identifier, and one of no kind. -/
theorem witness_note :
    sounding.cfg.wf = true ∧ (1 : U8) ≠ sounding.ctl.chan ∧ (0 : U8) = sounding.ctl.chan ∧
      (0x27 : U8) = sounding.cfg.noteTrig[(3 : TrackId)] ∧ (0x28 : U8) = sounding.cfg.noteBank[(0 : Fin 4)] ∧
      (0x2C : U8) = sounding.cfg.noteDir ∧ (0x2D : U8) = sounding.cfg.noteMix ∧
      (∀ k : Fin 4, (0x2E : U8) ≠ sounding.cfg.noteTrig[k] ∧ (0x2E : U8) ≠ sounding.cfg.noteBank[k]) ∧
      (0x2E : U8) ≠ sounding.cfg.noteDir ∧ (0x2E : U8) ≠ sounding.cfg.noteMix := by decide

/-- ControlMessageSetsItsRate: another channel, an identifier of a register, and one of none. -/
theorem witness_control :
    sounding.cfg.wf = true ∧ (1 : U8) ≠ sounding.ctl.chan ∧ (0 : U8) = sounding.ctl.chan ∧
      (0x13 : U8) = sounding.cfg.ccId[(3 : Fin 4)] ∧ (∀ r : Fin 4, (0x14 : U8) ≠ sounding.cfg.ccId[r]) ∧
      sounding.cfg.ccToRate = .reference := by decide

end Sys2Proof.Tests
end

/-! PROOFS. What a step runs, slot by slot of the schedule, when no strobe is due (R11, R90, R97, R317). -/

namespace Sys2Proof.Machine

variable {s : State}

/-! ### The control port's move -/

/-- An idle port runs the operation of the next word, unless it is the word of `TICK` (R90, R91). -/
theorem controlMove_of_decode {w : OpWord} {ws : List OpWord} {i : Instr} (hprog : s.prog = [])
    (htrace : s.trace = w :: ws) (hdec : decode w = .ok i) (hi : i ≠ .tick) :
    controlMove s = exec i (s.setTrace ws) := by
  simp only [controlMove, hprog, acceptWord, htrace, hdec, if_neg hi]

/-- A trace line whose move goes on keeps its slot exactly while its operation is unfinished (R97). -/
theorem keepLine_of_next {rest : List Slot} {m : Result} {t : State} (h : m = .next t) :
    keepLine rest m = .next (if t.prog = [] then t else t.setSched (.command :: rest)) := by
  rw [h, keepLine]

/-- At a boundary with the gate open an arriving strobe is the whole `TICK` (R314). -/
theorem strobe_of_open (h : s.inhibit = false) : strobe s = exec .tick s := by
  rw [strobe, h, if_neg Bool.false_ne_true]

/-! ### One step per slot -/

section NoStrobeDue
variable (hwf : s.cfg.wf = true) (hdue : s.strobeDue = false)
include hwf

/-- The step of a machine with a well-formed configuration is what its boundary says. -/
theorem step_eq_advance : step s = advanceMachine s := by
  rw [step, stepMachine, if_pos hwf]

include hdue

/-- An empty schedule leaves the boundary to the control port. -/
theorem step_of_empty (h : s.sched = []) : step s = controlMove s := by
  simp [step_eq_advance hwf, advanceMachine, hdue, h]

theorem step_of_control {r : List Slot} (h : s.sched = .control :: r) :
    step s = controlMove (s.setSched r) := by
  simp [step_eq_advance hwf, advanceMachine, hdue, h]

/-- A strobe that arrives during the move stands on its port (R317). -/
theorem step_of_overlap {r : List Slot} (h : s.sched = .overlap :: r) :
    step s = controlMove ((s.setSched r).setTickStb true) := by
  simp [step_eq_advance hwf, advanceMachine, hdue, h]

theorem step_of_command {r : List Slot} (h : s.sched = .command :: r) :
    step s = keepLine r (controlMove (s.setSched r)) := by
  simp [step_eq_advance hwf, advanceMachine, hdue, h]

theorem step_of_tick {r : List Slot} (h : s.sched = .tick :: r) :
    step s = strobe (s.setSched r) := by
  simp [step_eq_advance hwf, advanceMachine, hdue, h]

end NoStrobeDue

/-! ### The statement -/

/-- Settles O5: each slot's step is the port's move or the strobe, and an idle port's move is `exec` of the decoded
word. -/
theorem stepRunsTheDecodedInstruction : Obligations.StepRunsTheDecodedInstruction := by
  refine ⟨fun s w ws i hwf hdue hprog htrace hdec hi => ⟨fun hs => ?empty, fun r hs => ?control,
    fun r hs => ?overlap, fun r t hs hexec => ?command⟩, fun s r hwf hdue hopen hs => ?tick⟩
  case empty =>
    rw [step_of_empty hwf hdue hs]
    exact controlMove_of_decode hprog htrace hdec hi
  case control =>
    rw [step_of_control hwf hdue hs]
    exact controlMove_of_decode hprog htrace hdec hi
  case overlap =>
    rw [step_of_overlap hwf hdue hs]
    exact controlMove_of_decode hprog htrace hdec hi
  case command =>
    rw [step_of_command hwf hdue hs]
    have hmove : controlMove (s.setSched r) = .next t :=
      (controlMove_of_decode (s := s.setSched r) hprog htrace hdec hi).trans hexec
    exact keepLine_of_next hmove
  case tick =>
    rw [step_of_tick hwf hdue hs]
    exact strobe_of_open hopen

end Sys2Proof.Machine

/-! PROOFS. A step is one whole tick or leaves what the tick engine owns (R37, R186, R260, R315, R316). -/

namespace Sys2Proof.Machine

variable {s t u : State}

/-! ### Leaving the tick engine alone -/

/-- From s to t nothing the tick engine owns is written, no sample is handed over, the configuration stands, and a
request flag is at most raised: what R37 and R260 allow the control port. -/
structure LeavesEngine (s t : State) : Prop where
  eng : t.eng = s.eng
  samples : t.samples = s.samples
  cfg : t.cfg = s.cfg
  raised : onlyRaised s t

namespace LeavesEngine

/-- A write to anything but the four parts `LeavesEngine` speaks of. -/
theorem of_unchanged (heng : t.eng = s.eng) (hsamples : t.samples = s.samples) (hcfg : t.cfg = s.cfg)
    (hreqs : t.reqs = s.reqs) : LeavesEngine s t :=
  ⟨heng, hsamples, hcfg, by simp [onlyRaised, hreqs]⟩

theorem refl (s : State) : LeavesEngine s s := of_unchanged rfl rfl rfl rfl

theorem trans (hst : LeavesEngine s t) (htu : LeavesEngine t u) : LeavesEngine s u where
  eng := htu.eng.trans hst.eng
  samples := htu.samples.trans hst.samples
  cfg := htu.cfg.trans hst.cfg
  raised := by
    obtain ⟨hreq, hpulse, hkill⟩ := hst.raised
    obtain ⟨hreq', hpulse', hkill'⟩ := htu.raised
    exact ⟨fun k => hreq' k ∘ hreq k, hpulse' ∘ hpulse, hkill' ∘ hkill⟩

/-- What holds of the state an operation computes holds of its next state. -/
theorem of_next (h : (.next u : Result) = .next t) (hu : LeavesEngine s u) : LeavesEngine s t :=
  Host.Outcome.next.inj h ▸ hu

end LeavesEngine

/-! ### One rule per update and shared operation -/

/-- Requesting a track raises its flag and no other changes (R201, R261). -/
theorem setReq_leavesEngine (s : State) (k : TrackId) : LeavesEngine s (s.setReq k) where
  eng := rfl
  samples := rfl
  cfg := rfl
  raised := by
    refine ⟨fun j hj => ?_, id, id⟩
    by_cases hkj : k.val = j.val
    · simp [hkj]
    · simpa [Vector.getElem_set, hkj] using hj

theorem setPulseReq_leavesEngine (s : State) : LeavesEngine s s.setPulseReq :=
  ⟨rfl, rfl, rfl, fun _ => id, fun _ => rfl, id⟩

theorem setPulseKill_leavesEngine (s : State) : LeavesEngine s s.setPulseKill :=
  ⟨rfl, rfl, rfl, fun _ => id, id, fun _ => rfl⟩

theorem setProg_leavesEngine (s : State) (us : List MicroOp) : LeavesEngine s (s.setProg us) :=
  .of_unchanged rfl rfl rfl rfl

theorem setSched_leavesEngine (s : State) (l : List Slot) : LeavesEngine s (s.setSched l) :=
  .of_unchanged rfl rfl rfl rfl

theorem setTrace_leavesEngine (s : State) (l : List OpWord) : LeavesEngine s (s.setTrace l) :=
  .of_unchanged rfl rfl rfl rfl

theorem setNv_leavesEngine (s : State) (m : Memory) : LeavesEngine s (s.setNv m) :=
  .of_unchanged rfl rfl rfl rfl

theorem setFlag_leavesEngine (s : State) (k : TrackId) (x : PatIx) (v : Bool) : LeavesEngine s (s.setFlag k x v) :=
  .of_unchanged rfl rfl rfl rfl

theorem setPitch_leavesEngine (s : State) (p : PairId) (x : PatIx) (v : S16) : LeavesEngine s (s.setPitch p x v) :=
  .of_unchanged rfl rfl rfl rfl

theorem unpackByte_leavesEngine (s : State) (even odd : PatIx) (b : U8) :
    LeavesEngine s (unpackByte s even odd b) := by
  obtain ⟨hcfg, heng, hreqs, -, -, -, -, hsamples⟩ := unpackByte_rest s even odd b
  exact .of_unchanged heng hsamples hcfg hreqs

/-- The gated read reads `la` and writes nothing of the engine (R263). -/
theorem gatedCapture_leavesEngine (s : State) : LeavesEngine s (gatedCapture s) := by
  rw [gatedCapture_eq]
  exact .of_unchanged rfl rfl rfl rfl

theorem writeRate_leavesEngine (s : State) (r : Fin 4) (v : S16) : LeavesEngine s (writeRate s r v) := by
  rw [writeRate_eq]
  split <;> exact .of_unchanged rfl rfl rfl rfl

/-! ### Micro-operations and operations of the control port -/

/-- Of all micro-operations only `request` touches a request flag; none writes the engine (R11, R260, R261). -/
theorem runMicro_leavesEngine {m : MicroOp} (h : runMicro m s = .next t) : LeavesEngine s t := by
  have heff := runMicro_next h
  cases m <;> simp only [MicroEffect] at heff
  case request k => exact heff ▸ setReq_leavesEngine s k
  case capture => exact heff ▸ gatedCapture_leavesEngine s
  case recordFlag k b =>
    obtain ⟨x, -, rfl⟩ := heff
    exact setFlag_leavesEngine s k x true
  case recordRate r b =>
    obtain ⟨x, -, rfl⟩ := heff
    exact setPitch_leavesEngine s r x _
  case clearFlag k x => exact heff ▸ setFlag_leavesEngine s k x false
  case clearPitch p x | unpackPitch p x _ => exact heff ▸ setPitch_leavesEngine s p x _
  case unpackFlags => exact heff ▸ unpackByte_leavesEngine s _ _ _
  case packFlags | packPitch | nvFill =>
    obtain ⟨-, rfl⟩ := heff
    exact setNv_leavesEngine s _
  case writeSettings | writeBank | writeChan => exact heff ▸ setNv_leavesEngine s _
  case readSettings | bootMagic0 | bootMagic1 => exact heff ▸ setProg_leavesEngine s _
  case eraseDone | writeSlot | restoreSlot | restoreSettings | restoreBank | restoreChan =>
    subst heff
    exact .of_unchanged rfl rfl rfl rfl

/-- Starting a command does no more than its first micro-operation (R33). -/
theorem issue_leavesEngine {us : List MicroOp} (h : issue us s = .next t) : LeavesEngine s t := by
  obtain ⟨-, rfl⟩ | ⟨m, rest, -, hm⟩ := issue_next h
  · exact .refl _
  · exact (setProg_leavesEngine s _).trans (runMicro_leavesEngine hm)

/-- A note message performs a trigger, a bank selection or a toggle (R287). -/
theorem performNote_leavesEngine {act : NoteAct} (h : performNote act s = .next t) : LeavesEngine s t := by
  cases act
  case trig k => exact issue_leavesEngine h
  case bank | dir | mix | nothing => exact .of_next h (.of_unchanged rfl rfl rfl rfl)

/-- No operation but `TICK` writes the engine (R37, R260). The request flags are raised by a trigger's first
micro-operation, by `MSTOP` and by `MCLK` on a hit (R261). -/
theorem exec_leavesEngine {i : Instr} (hi : i ≠ .tick) (h : exec i s = .next t) : LeavesEngine s t := by
  cases i
  case tick => exact absurd rfl hi
  case erase | boot =>
    simp only [exec, execErase, execBoot] at h
    exact issue_leavesEngine h
  case trig | save | load =>
    simp only [exec, execTrig, execSave, execLoad] at h
    split at h
    · exact issue_leavesEngine h
    · exact .of_next h (.refl s)
  case tempo | dir | mix | click | chan | div | mstart | mcont =>
    exact .of_next h (.of_unchanged rfl rfl rfl rfl)
  case bank | live | run | record | ovr | prd =>
    simp only [exec, execBank, execLive, execRun, execRecord, execOvr, execPrd] at h
    split at h <;> exact .of_next h (.of_unchanged rfl rfl rfl rfl)
  case rate =>
    simp only [exec, execRate] at h
    split at h
    · exact .of_next h (writeRate_leavesEngine s _ _)
    · exact .of_next h (.refl s)
  case rdla =>
    have hrsp : LeavesEngine (gatedCapture s) ((gatedCapture s).setRsp (gatedCapture s).ctl.laHold) :=
      .of_unchanged rfl rfl rfl rfl
    exact .of_next h ((gatedCapture_leavesEngine s).trans hrsp)
  case mstop =>
    exact .of_next h ((setPulseKill_leavesEngine s).trans (.of_unchanged rfl rfl rfl rfl))
  case mclk =>
    simp only [exec, execMclk] at h
    split_ifs at h
    · exact .of_next h (.refl s)
    · exact .of_next h ((setPulseReq_leavesEngine s).trans (.of_unchanged rfl rfl rfl rfl))
    · exact .of_next h (.of_unchanged rfl rfl rfl rfl)
  case mnote =>
    simp only [exec, execMnote] at h
    split at h
    · exact performNote_leavesEngine h
    · exact .of_next h (.refl s)
  case mcc =>
    simp only [exec, execMcc] at h
    split at h
    · split at h
      · exact .of_next h (writeRate_leavesEngine s _ _)
      · exact .of_next h (.refl s)
    · exact .of_next h (.refl s)

/-- Every move of the control port leaves the engine alone (R37, R260). -/
theorem controlMove_leavesEngine (h : controlMove s = .next t) : LeavesEngine s t := by
  obtain ⟨m, us, -, hm⟩ | ⟨w, ws, i, -, -, -, hi, hexec⟩ | ⟨-, -, rfl⟩ := controlMove_next h
  · exact (setProg_leavesEngine s us).trans (runMicro_leavesEngine hm)
  · exact (setTrace_leavesEngine s ws).trans (exec_leavesEngine hi hexec)
  · exact .refl _

/-! ### The two kinds of step -/

/-- Taking a strobe spends a strobe bit and changes nothing else (R265, R313). -/
theorem takeStrobe_eq (s : State) : ∃ p b, s.takeStrobe = { s with tickPend := p, tickStb := b } := by
  unfold State.takeStrobe
  split
  · exact ⟨false, s.tickStb, rfl⟩
  · exact ⟨s.tickPend, false, rfl⟩

/-- A step is the whole tick of the state with its strobe spent, or leaves the engine alone (R260, R316). -/
theorem step_tick_or_leavesEngine (h : step s = .next t) :
    (∃ r p b, t = tick { s with sched := r, tickPend := p, tickStb := b }) ∨ LeavesEngine s t := by
  obtain ⟨-, ⟨-, rfl⟩ | ⟨r, -, -, -, rfl⟩ | ⟨r, -, -, -, rfl⟩ | ⟨r, -, -, hmove⟩ |
    ⟨r, v, -, -, hmove, rfl⟩ | ⟨r, -, -, hmove⟩ | ⟨-, -, hmove⟩⟩ := step_next h
  · -- a waiting strobe is taken (R314)
    obtain ⟨p, b, htake⟩ := takeStrobe_eq s
    exact .inl ⟨s.sched, p, b, htake ▸ rfl⟩
  · -- a strobe arrives and the gate is open (R314)
    exact .inl ⟨r, s.tickPend, s.tickStb, rfl⟩
  · -- a strobe arrives and is held (R265): no tick yet
    exact .inr (.of_unchanged rfl rfl rfl rfl)
  · exact .inr ((setSched_leavesEngine s r).trans (controlMove_leavesEngine hmove))
  · have hv : LeavesEngine s v := (setSched_leavesEngine s r).trans (controlMove_leavesEngine hmove)
    split
    · exact .inr hv
    · exact .inr (hv.trans (setSched_leavesEngine v _))
  · have hstb : LeavesEngine s ((s.setSched r).setTickStb true) := .of_unchanged rfl rfl rfl rfl
    exact .inr (hstb.trans (controlMove_leavesEngine hmove))
  · exact .inr (controlMove_leavesEngine hmove)

/-- Settles O12: a tick's frame is that of `tick` in every field, the other steps are the control port's. -/
theorem everyStepIsATickOrLeavesTheEngine : Obligations.EveryStepIsATickOrLeavesTheEngine := by
  intro s t h
  obtain ⟨r, p, b, rfl⟩ | hleaves := step_tick_or_leavesEngine h
  · exact .inl ⟨⟨r, p, b, rfl⟩, tick_samples _, tick_ctl _, tick_pat _, tick_nv _, tick_prog _, tick_trace _,
      tick_reqs _⟩
  · exact .inr ⟨hleaves.samples, hleaves.eng, hleaves.raised⟩

end Sys2Proof.Machine


/-! PROOFS. The fold-back clip, one rule per branch (R184). -/

namespace Sys2Proof.Machine

variable {pre : Int}

/-- R184, `pre > SMAX`: one reflection at the upper end. -/
theorem foldBack_of_smax_lt (h : (smax : Int) < pre) : foldBack pre = 2 * (smax : Int) - pre := by
  rw [foldBack, if_pos h]

/-- R184, `pre < 0`: one reflection at 0. The upper branch, tested first, is not taken. -/
theorem foldBack_of_neg (h : pre < 0) : foldBack pre = -pre := by
  have hle : ¬ (smax : Int) < pre := not_lt_of_ge (h.le.trans (Int.natCast_nonneg smax))
  rw [foldBack, if_neg hle, if_pos h]

/-- R184, otherwise: a value the sample can hold is kept. -/
theorem foldBack_of_mem_range (hnonneg : 0 ≤ pre) (hle : pre ≤ (smax : Int)) : foldBack pre = pre := by
  rw [foldBack, if_neg (not_lt_of_ge hle), if_neg (not_lt_of_ge hnonneg)]

/-- Settles O38: the branches of the clip, with `SMAX = 255`. -/
theorem foldBackReflectsOnce : Obligations.FoldBackReflectsOnce :=
  fun _ => ⟨foldBack_of_smax_lt, foldBack_of_neg, foldBack_of_mem_range⟩

end Sys2Proof.Machine


/-! PROOFS. The commands that write one register of the control group (R202 to R205, R210, R211, R213, R215,
R216). -/

namespace Sys2Proof.Machine

variable (s : State)

/-! ### The 8-bit argument (R94) -/

/-- An argument is one of the four legal numbers and read as it, or outside them and read as none. -/
theorem fourArg_cases (a : U8) :
    (∃ k : Fin 4, a.toNat = k.val ∧ fourArg a = some k) ∨ (4 ≤ a.toNat ∧ fourArg a = none) := by
  by_cases h : a.toNat < 4
  · exact .inl ⟨⟨a.toNat, h⟩, rfl, dif_pos h⟩
  · exact .inr ⟨not_lt.mp h, dif_neg h⟩

/-- An argument is 0 or 1 and read as it, or outside them and read as none. -/
theorem twoArg_cases (a : U8) :
    (∃ k : Fin 2, a.toNat = k.val ∧ twoArg a = some k) ∨ (2 ≤ a.toNat ∧ twoArg a = none) := by
  by_cases h : a.toNat < 2
  · exact .inl ⟨⟨a.toNat, h⟩, rfl, dif_pos h⟩
  · exact .inr ⟨not_lt.mp h, dif_neg h⟩

/-! ### Commands with a checked argument: the legal case and the ignored one (R93) -/

section CheckedArgument
variable {a : U8}

theorem exec_bank_of_some {b : Fin 4} (h : fourArg a = some b) :
    exec (.bank a) s = .next (s.setBank (bankOf b)) := by
  simp only [exec, execBank, selectBank, h]

theorem exec_bank_of_none (h : fourArg a = none) : exec (.bank a) s = .next s := by
  simp only [exec, execBank, h]

theorem exec_rate_of_some {r : Fin 4} (d : S16) (h : fourArg a = some r) :
    exec (.rate a d) s = .next (writeRate s r d) := by
  simp only [exec, execRate, h]

theorem exec_rate_of_none (d : S16) (h : fourArg a = none) : exec (.rate a d) s = .next s := by
  simp only [exec, execRate, h]

theorem exec_live_of_some {r : PairId} (d : S16) (h : twoArg a = some r) :
    exec (.live a d) s = .next (s.setLiveIn r d) := by
  simp only [exec, execLive, h]

theorem exec_live_of_none (d : S16) (h : twoArg a = none) : exec (.live a d) s = .next s := by
  simp only [exec, execLive, h]

theorem exec_ovr_of_some {on : Fin 2} (h : twoArg a = some on) :
    exec (.ovr a) s = .next (s.setOvr (on.val == 1)) := by
  simp only [exec, execOvr, h]

theorem exec_ovr_of_none (h : twoArg a = none) : exec (.ovr a) s = .next s := by
  simp only [exec, execOvr, h]

end CheckedArgument

/-! ### Commands that take any value, or none -/

theorem exec_tempo (d : U16) : exec (.tempo d) s = .next (s.setTempo d) := rfl
theorem exec_chan (a : U8) : exec (.chan a) s = .next (s.setChan a) := rfl
theorem exec_div (a : U8) : exec (.div a) s = .next (s.setDivN a) := rfl
theorem exec_dir : exec .dir s = .next (s.setDir (!s.ctl.dir)) := rfl
theorem exec_mix : exec .mix s = .next (s.setMix (!s.ctl.mix)) := rfl

/-! ### The register each command writes, by its argument -/

/-- R202. -/
theorem exec_bank_eq (a : U8) : exec (.bank a) s =
    .next (if a.toNat < 4 then s.setBank (BitVec.ofNat 2 a.toNat) else s) := by
  obtain ⟨b, hval, harg⟩ | ⟨hle, harg⟩ := fourArg_cases a
  · rw [exec_bank_of_some s harg, if_pos (hval ▸ b.isLt), hval, bankOf]
  · rw [exec_bank_of_none s harg, if_neg (not_lt.mpr hle)]

/-- R203: registers 0 and 1 are the manual-control values, 2 and 3 the fixed rates. -/
theorem exec_rate_eq (a : U8) (d : S16) : exec (.rate a d) s = .next (
    if a.toNat = 0 then s.setCcRate 0 d
    else if a.toNat = 1 then s.setCcRate 1 d
    else if a.toNat = 2 then s.setFixedRate 0 d
    else if a.toNat = 3 then s.setFixedRate 1 d
    else s) := by
  obtain ⟨r, hval, harg⟩ | ⟨hle, harg⟩ := fourArg_cases a
  · rw [exec_rate_of_some s d harg, writeRate_eq, hval]
    match r with
    | 0 | 1 | 2 | 3 => rfl
  · have hne (n : Nat) (hn : n < 4) : a.toNat ≠ n := by omega
    rw [exec_rate_of_none s d harg, if_neg (hne 0 (by decide)), if_neg (hne 1 (by decide)),
      if_neg (hne 2 (by decide)), if_neg (hne 3 (by decide))]

/-- R204. -/
theorem exec_live_eq (a : U8) (d : S16) : exec (.live a d) s = .next (
    if a.toNat = 0 then s.setLiveIn 0 d else if a.toNat = 1 then s.setLiveIn 1 d else s) := by
  obtain ⟨r, hval, harg⟩ | ⟨hle, harg⟩ := twoArg_cases a
  · rw [exec_live_of_some s d harg, hval]
    match r with
    | 0 | 1 => rfl
  · rw [exec_live_of_none s d harg, if_neg (by omega), if_neg (by omega)]

/-- R213: 0 clears the override, 1 sets it. -/
theorem exec_ovr_eq (a : U8) : exec (.ovr a) s = .next (
    if a.toNat = 0 then s.setOvr false else if a.toNat = 1 then s.setOvr true else s) := by
  obtain ⟨on, hval, harg⟩ | ⟨hle, harg⟩ := twoArg_cases a
  · rw [exec_ovr_of_some s harg, hval]
    match on with
    | 0 | 1 => rfl
  · rw [exec_ovr_of_none s harg, if_neg (by omega), if_neg (by omega)]

/-! ### The statements: each named update is the record update of its one register -/

/-- Settles O42: the legal arguments one by one, and the ignored ones. -/
theorem bankRateAndLiveWriteOneRegister : Obligations.BankRateAndLiveWriteOneRegister :=
  ⟨fun a s => exec_bank_eq s a, fun a d s => exec_rate_eq s a d, fun a d s => exec_live_eq s a d⟩

/-- Settles O43: these commands check no argument, so each is its register's update. -/
theorem tempoChanAndDivWriteTheirRegister : Obligations.TempoChanAndDivWriteTheirRegister :=
  ⟨fun d s => exec_tempo s d, fun a s => exec_chan s a, fun a s => exec_div s a⟩

/-- Settles O45: the two toggles, and the override by its argument. -/
theorem dirMixAndOvrWriteTheirBit : Obligations.DirMixAndOvrWriteTheirBit :=
  ⟨exec_dir, exec_mix, fun a s => exec_ovr_eq s a⟩

end Sys2Proof.Machine


/-! PROOFS. The note messages (R286 to R288): under a well-formed configuration an identifier asks for one operation,
which the message performs. -/

namespace Sys2Proof

/-- The model's executable test of R6 is Mathlib's `List.Nodup`. -/
theorem distinct_iff_nodup : ∀ l : List U8, distinct l = true ↔ l.Nodup
  | [] => by simp [distinct]
  | x :: xs => by simp [distinct, distinct_iff_nodup xs]

/-- The ten note identifiers are pairwise distinct (R6, R288), pair of kinds by pair of kinds. -/
structure NoteIdsDistinct (c : Cfg) : Prop where
  trig_inj : ∀ j k : TrackId, c.noteTrig[j] = c.noteTrig[k] → j = k
  bank_inj : ∀ a b : Fin 4, c.noteBank[a] = c.noteBank[b] → a = b
  trig_ne_bank : ∀ (k : TrackId) (b : Fin 4), c.noteTrig[k] ≠ c.noteBank[b]
  trig_ne_dir : ∀ k : TrackId, c.noteTrig[k] ≠ c.noteDir
  trig_ne_mix : ∀ k : TrackId, c.noteTrig[k] ≠ c.noteMix
  bank_ne_dir : ∀ b : Fin 4, c.noteBank[b] ≠ c.noteDir
  bank_ne_mix : ∀ b : Fin 4, c.noteBank[b] ≠ c.noteMix
  dir_ne_mix : c.noteDir ≠ c.noteMix

/-- Entries of a vector without repetition are equal only at one index. -/
theorem eq_of_getElem_eq_of_nodup {v : Vector U8 4} (h : v.toList.Nodup) (j k : Fin 4) (hjk : v[j] = v[k]) :
    j = k := by
  have hlist : v.toList[j.val]'(by simp) = v.toList[k.val]'(by simp) := by simpa using hjk
  exact Fin.ext (h.getElem_inj_iff.mp hlist)

theorem noteIdsDistinct_of_wf {c : Cfg} (h : c.wf = true) : NoteIdsDistinct c := by
  simp only [Cfg.wf, Bool.and_eq_true] at h
  obtain ⟨-, -, -, -, -, -, -, -, -, -, hids, -, -⟩ := h
  have hnodup := (distinct_iff_nodup _).mp hids
  obtain ⟨hids4, htoggles, hapart⟩ := List.nodup_append'.mp hnodup
  obtain ⟨htrig, hbank, htb⟩ := List.nodup_append'.mp hids4
  have mem_trig (k : TrackId) : c.noteTrig[k] ∈ c.noteTrig.toList := by simp
  have mem_bank (b : Fin 4) : c.noteBank[b] ∈ c.noteBank.toList := by simp
  have trig_ne_toggle (k : TrackId) : c.noteTrig[k] ≠ c.noteDir ∧ c.noteTrig[k] ≠ c.noteMix := by
    simpa using List.disjoint_left.mp hapart (List.mem_append_left _ (mem_trig k))
  have bank_ne_toggle (b : Fin 4) : c.noteBank[b] ≠ c.noteDir ∧ c.noteBank[b] ≠ c.noteMix := by
    simpa using List.disjoint_left.mp hapart (List.mem_append_right _ (mem_bank b))
  exact
    { trig_inj := eq_of_getElem_eq_of_nodup htrig
      bank_inj := eq_of_getElem_eq_of_nodup hbank
      trig_ne_bank := fun k b heq => List.disjoint_left.mp htb (mem_trig k) (heq ▸ mem_bank b)
      trig_ne_dir := fun k => (trig_ne_toggle k).1
      trig_ne_mix := fun k => (trig_ne_toggle k).2
      bank_ne_dir := fun b => (bank_ne_toggle b).1
      bank_ne_mix := fun b => (bank_ne_toggle b).2
      dir_ne_mix := by simpa using htoggles }

namespace Machine

/-! ### The first of four (R288, R289) -/

section FirstOfFour
variable {f : Fin 4 → Bool}

theorem findFour_eq_some_of_unique {k : Fin 4} (hk : f k = true) (huniq : ∀ j, f j = true → j = k) :
    findFour f = some k := by
  have hne (j : Fin 4) (hj : j ≠ k) : f j = false := Bool.eq_false_iff.mpr (hj ∘ huniq j)
  fin_cases k <;> simpa [findFour, hne] using hk

theorem findFour_eq_none (h : ∀ k, f k = false) : findFour f = none := by
  simp [findFour, h]

end FirstOfFour

/-! ### What each identifier asks for (R287, R288) -/

section Identifiers
variable {c : Cfg}

theorem noteAct_trig (h : NoteIdsDistinct c) (k : TrackId) : noteAct c c.noteTrig[k] = .trig k := by
  have hfind : findFour (fun j => c.noteTrig[j] == c.noteTrig[k]) = some k :=
    findFour_eq_some_of_unique (beq_self_eq_true _) fun j hj => h.trig_inj j k (beq_iff_eq.mp hj)
  rw [noteAct, hfind]

/-- Past the trigger identifiers the map looks at the others. -/
theorem findFour_trig_eq_none {id : U8} (h : ∀ k : TrackId, id ≠ c.noteTrig[k]) :
    findFour (fun k => c.noteTrig[k] == id) = none :=
  findFour_eq_none fun k => beq_false_of_ne (h k).symm

theorem noteAct_bank (h : NoteIdsDistinct c) (b : Fin 4) : noteAct c c.noteBank[b] = .bank b := by
  have hfind : findFour (fun a => c.noteBank[a] == c.noteBank[b]) = some b :=
    findFour_eq_some_of_unique (beq_self_eq_true _) fun a ha => h.bank_inj a b (beq_iff_eq.mp ha)
  rw [noteAct, findFour_trig_eq_none fun k => (h.trig_ne_bank k b).symm, hfind]

/-- An identifier that is neither a trigger's nor a bank's is a toggle's or means nothing. -/
theorem noteAct_of_ne {id : U8} (htrig : ∀ k : TrackId, id ≠ c.noteTrig[k])
    (hbank : ∀ b : Fin 4, id ≠ c.noteBank[b]) :
    noteAct c id = if id = c.noteDir then .dir else if id = c.noteMix then .mix else .nothing := by
  have hfind : findFour (fun b => c.noteBank[b] == id) = none :=
    findFour_eq_none fun b => beq_false_of_ne (hbank b).symm
  rw [noteAct, findFour_trig_eq_none htrig, hfind]

theorem noteAct_dir (h : NoteIdsDistinct c) : noteAct c c.noteDir = .dir := by
  rw [noteAct_of_ne (fun k => (h.trig_ne_dir k).symm) (fun b => (h.bank_ne_dir b).symm), if_pos rfl]

theorem noteAct_mix (h : NoteIdsDistinct c) : noteAct c c.noteMix = .mix := by
  rw [noteAct_of_ne (fun k => (h.trig_ne_mix k).symm) (fun b => (h.bank_ne_mix b).symm),
    if_neg h.dir_ne_mix.symm, if_pos rfl]

end Identifiers

/-! ### What the message does with it (R286, R287) -/

section Message
variable {s : State} {ch id : U8}

theorem exec_mnote_of_other_channel (h : ch ≠ s.ctl.chan) : exec (.mnote ch id) s = .next s :=
  if_neg h

theorem exec_mnote_of_channel {act : NoteAct} (hch : ch = s.ctl.chan) (hact : noteAct s.cfg id = act) :
    exec (.mnote ch id) s = performNote act s :=
  (if_pos hch).trans (by rw [hact])

/-- A number 0..3 as an 8-bit argument is read as itself (R94). -/
theorem fourArg_ofNat : ∀ k : Fin 4, fourArg (BitVec.ofNat 8 k.val) = some k := by decide

theorem performNote_trig (s : State) (k : TrackId) :
    performNote (.trig k) s = exec (.trig (BitVec.ofNat 8 k.val)) s := by
  simp only [exec, execTrig, fourArg_ofNat, performNote]

theorem performNote_bank (s : State) (b : Fin 4) :
    performNote (.bank b) s = exec (.bank (BitVec.ofNat 8 b.val)) s :=
  (exec_bank_of_some s (fourArg_ofNat b)).symm

theorem performNote_dir (s : State) : performNote .dir s = exec .dir s := rfl
theorem performNote_mix (s : State) : performNote .mix s = exec .mix s := rfl

/-- A trigger starts with the request for its track, which always goes on (R201). -/
theorem manualTrigger_completes (s : State) (k : TrackId) : ∃ t, manualTrigger k s = .next t := by
  unfold manualTrigger trigOps
  split
  · split <;> exact ⟨_, rfl⟩
  · exact ⟨_, rfl⟩

theorem performNote_completes (act : NoteAct) (s : State) : ∃ t, performNote act s = .next t := by
  cases act
  case trig k => exact manualTrigger_completes s k
  case bank | dir | mix | nothing => exact ⟨_, rfl⟩

theorem exec_mnote_completes (ch id : U8) (s : State) : ∃ t, exec (.mnote ch id) s = .next t := by
  by_cases hch : ch = s.ctl.chan
  · rw [exec_mnote_of_channel hch rfl]
    exact performNote_completes _ s
  · exact ⟨s, exec_mnote_of_other_channel hch⟩

end Message

/-! ### The statement -/

/-- Settles O59: the identifiers being distinct, each kind of identifier asks for its own operation. -/
theorem noteMessagePerformsItsOperation : Obligations.NoteMessagePerformsItsOperation := by
  intro ch id s hwf
  have hids := noteIdsDistinct_of_wf hwf
  refine ⟨exec_mnote_completes ch id s, exec_mnote_of_other_channel, fun hch =>
    ⟨fun k hid => ?trig, fun b hid => ?bank, fun hid => ?dir, fun hid => ?mix, fun hfour hdir hmix => ?nothing⟩⟩
  case trig =>
    rw [exec_mnote_of_channel hch (hid ▸ noteAct_trig hids k), performNote_trig]
  case bank =>
    rw [exec_mnote_of_channel hch (hid ▸ noteAct_bank hids b), performNote_bank]
  case dir =>
    rw [exec_mnote_of_channel hch (hid ▸ noteAct_dir hids), performNote_dir]
  case mix =>
    rw [exec_mnote_of_channel hch (hid ▸ noteAct_mix hids), performNote_mix]
  case nothing =>
    have hact : noteAct s.cfg id = .nothing := by
      rw [noteAct_of_ne (fun k => (hfour k).1) (fun b => (hfour b).2), if_neg hdir, if_neg hmix]
    exact exec_mnote_of_channel hch hact

end Machine

end Sys2Proof

/-! PROOFS. The decoder and the encoder are inverse to each other, and the opcode map's rows are the legal words
(R91 to R95). -/

namespace Sys2Proof

variable {w : OpWord}

/-! ### Fields of a word -/

@[simp] theorem extract_hi_append (x y : U8) : (x ++ y : BitVec (8 + 8)).extractLsb' 8 8 = x := by
  apply BitVec.eq_of_getLsbD_eq
  intro i hi
  rw [BitVec.getLsbD_extractLsb', BitVec.getLsbD_append]
  simp [hi]

@[simp] theorem extract_lo_append (x y : U8) : (x ++ y : BitVec (8 + 8)).extractLsb' 0 8 = y := by
  apply BitVec.eq_of_getLsbD_eq
  intro i hi
  rw [BitVec.getLsbD_extractLsb', BitVec.getLsbD_append]
  simp [hi]

/-- The datum is its two bytes (R92, R93). -/
theorem hiField_append_loField (w : OpWord) : (hiField w ++ loField w : BitVec (8 + 8)) = dField w := by
  apply BitVec.eq_of_getLsbD_eq
  intro i hi
  simp only [hiField, loField, dField, BitVec.getLsbD_append, BitVec.getLsbD_extractLsb']
  by_cases hlow : i < 8
  · simp [hlow, show i < 16 by omega]
  · simp [hlow, show i < 16 by omega, show i - 8 < 8 by omega, show 8 + (i - 8) = i by omega]

/-- Masking a word masks each of its fields. -/
theorem fields_and (v m : OpWord) : opField (v &&& m) = opField v &&& opField m ∧
    aField (v &&& m) = aField v &&& aField m ∧ dField (v &&& m) = dField v &&& dField m ∧
    hiField (v &&& m) = hiField v &&& hiField m := by
  simp only [opField, aField, dField, hiField, BitVec.extractLsb'_and, and_self]

/-! ### What each format accepts (R92) -/

theorem ifReservedZero_eq_ok {zero : Bool} {i j : Instr} :
    ifReservedZero w zero i = .ok j ↔ zero = true ∧ i = j := by
  unfold ifReservedZero
  split <;> simp_all

theorem formatE_eq_ok {i j : Instr} : formatE w i = .ok j ↔ (aField w = 0 ∧ dField w = 0) ∧ i = j := by
  simp [formatE, ifReservedZero_eq_ok]

theorem formatA_eq_ok {i : U8 → Instr} {j : Instr} : formatA w i = .ok j ↔ dField w = 0 ∧ i (aField w) = j := by
  simp [formatA, ifReservedZero_eq_ok]

theorem formatD_eq_ok {i : BitVec 16 → Instr} {j : Instr} :
    formatD w i = .ok j ↔ aField w = 0 ∧ i (dField w) = j := by
  simp [formatD, ifReservedZero_eq_ok]

theorem formatAD_eq_ok {i : U8 → BitVec 16 → Instr} {j : Instr} :
    formatAD w i = .ok j ↔ i (aField w) (dField w) = j := by
  simp [formatAD]

theorem formatN_eq_ok {i : U8 → U8 → Instr} {j : Instr} :
    formatN w i = .ok j ↔ hiField w = 0 ∧ i (aField w) (loField w) = j := by
  simp [formatN, ifReservedZero_eq_ok]

theorem formatC_eq_ok {i : U8 → U8 → U8 → Instr} {j : Instr} :
    formatC w i = .ok j ↔ i (aField w) (hiField w) (loField w) = j := by
  simp [formatC]

/-! ### The two directions -/

/-- Settles O2: the fields of an assembled word are those it was assembled from, so its format accepts it. -/
theorem decodeInvertsEncode : Obligations.DecodeInvertsEncode := by
  intro i
  cases i <;> rw [encode, decode, opField_wordOf]
  case tick | erase | dir | mix | click | rdla | boot | mstart | mstop | mcont | mclk =>
    exact formatE_eq_ok.mpr ⟨⟨aField_wordOf .., dField_wordOf ..⟩, rfl⟩
  case trig | bank | run | record | ovr | chan | div | save | load =>
    exact formatA_eq_ok.mpr ⟨dField_wordOf .., by rw [aField_wordOf]⟩
  case tempo => exact formatD_eq_ok.mpr ⟨aField_wordOf .., by rw [dField_wordOf]⟩
  case rate | live | prd => exact formatAD_eq_ok.mpr (by rw [aField_wordOf, dField_wordOf])
  case mnote => exact formatN_eq_ok.mpr (by simp)
  case mcc => exact formatC_eq_ok.mpr (by simp)

/-- A word is assembled from its own fields. -/
theorem wordOf_of_fields {op a : U8} {d : BitVec 16} (hop : opField w = op) (ha : aField w = a)
    (hd : dField w = d) : wordOf op a d = w := by
  subst hop ha hd
  exact wordOf_fields w

/-- Settles O3: an accepting format fixes every field of the word. -/
theorem encodeInvertsDecode : Obligations.EncodeInvertsDecode := by
  intro w i h
  unfold decode at h
  split at h
  case h_1 | h_9 | h_10 | h_11 | h_12 | h_14 | h_20 | h_21 | h_22 | h_23 | h_24 =>
    obtain ⟨⟨ha, hd⟩, rfl⟩ := formatE_eq_ok.mp h
    exact wordOf_of_fields (BitVec.eq_of_toNat_eq ‹_›) ha hd
  case h_2 | h_3 | h_7 | h_8 | h_13 | h_16 | h_17 | h_18 | h_19 =>
    obtain ⟨hd, rfl⟩ := formatA_eq_ok.mp h
    exact wordOf_of_fields (BitVec.eq_of_toNat_eq ‹_›) rfl hd
  case h_4 | h_5 | h_15 =>
    obtain rfl := formatAD_eq_ok.mp h
    exact wordOf_of_fields (BitVec.eq_of_toNat_eq ‹_›) rfl rfl
  case h_6 =>
    obtain ⟨ha, rfl⟩ := formatD_eq_ok.mp h
    exact wordOf_of_fields (BitVec.eq_of_toNat_eq ‹_›) ha rfl
  case h_25 =>
    obtain ⟨hhi, rfl⟩ := formatN_eq_ok.mp h
    exact wordOf_of_fields (BitVec.eq_of_toNat_eq ‹_›) rfl (hhi ▸ (hiField_append_loField w).symm)
  case h_26 =>
    obtain rfl := formatC_eq_ok.mp h
    exact wordOf_of_fields (BitVec.eq_of_toNat_eq ‹_›) rfl (hiField_append_loField w).symm
  case h_27 => cases h

/-! ### The opcode map (R94) -/

/-- Every instruction's word is one of its own row. -/
theorem row_covers_encode (i : Instr) : (Laws.EncodesToItsRow.row i).covers (encode i) = true := by
  cases i
  case tick => exact Laws.EncodesToItsRow.tick.1
  case trig => exact (Laws.EncodesToItsRow.trig _).1
  case bank => exact (Laws.EncodesToItsRow.bank _).1
  case rate => exact (Laws.EncodesToItsRow.rate _ _).1
  case live => exact (Laws.EncodesToItsRow.live _ _).1
  case tempo => exact (Laws.EncodesToItsRow.tempo _).1
  case run => exact (Laws.EncodesToItsRow.run _).1
  case record => exact (Laws.EncodesToItsRow.record _).1
  case erase => exact Laws.EncodesToItsRow.erase.1
  case dir => exact Laws.EncodesToItsRow.dir.1
  case mix => exact Laws.EncodesToItsRow.mix.1
  case click => exact Laws.EncodesToItsRow.click.1
  case ovr => exact (Laws.EncodesToItsRow.ovr _).1
  case rdla => exact Laws.EncodesToItsRow.rdla.1
  case prd => exact (Laws.EncodesToItsRow.prd _ _).1
  case chan => exact (Laws.EncodesToItsRow.chan _).1
  case div => exact (Laws.EncodesToItsRow.div _).1
  case save => exact (Laws.EncodesToItsRow.save _).1
  case load => exact (Laws.EncodesToItsRow.load _).1
  case boot => exact Laws.EncodesToItsRow.boot.1
  case mstart => exact Laws.EncodesToItsRow.mstart.1
  case mstop => exact Laws.EncodesToItsRow.mstop.1
  case mcont => exact Laws.EncodesToItsRow.mcont.1
  case mclk => exact Laws.EncodesToItsRow.mclk.1
  case mnote => exact (Laws.EncodesToItsRow.mnote _ _).1
  case mcc => exact (Laws.EncodesToItsRow.mcc _ _ _).1

/-- A covered word agrees with the row's pattern in each field under the mask. -/
theorem fields_of_covers {r : OpRow} (h : r.covers w = true) :
    opField w &&& opField r.mask = opField r.pattern ∧ aField w &&& aField r.mask = aField r.pattern ∧
      dField w &&& dField r.mask = dField r.pattern ∧ hiField w &&& hiField r.mask = hiField r.pattern := by
  rw [OpRow.covers, beq_iff_eq] at h
  obtain ⟨hop, ha, hd, hhi⟩ := fields_and w r.mask
  rw [← h, hop, ha, hd, hhi]
  exact ⟨rfl, rfl, rfl, rfl⟩

/-- Every row asks for all eight bits of its opcode (R92). -/
theorem row_masks_opcode : ∀ r ∈ opcodeTable, opField r.mask = BitVec.allOnes 8 := by decide

theorem opField_of_covers {r : OpRow} (hr : r ∈ opcodeTable) (h : r.covers w = true) :
    opField w = opField r.pattern := by
  obtain ⟨hop, -⟩ := fields_of_covers h
  rwa [row_masks_opcode r hr, BitVec.and_allOnes] at hop

/-- No opcode is in two rows (R94). -/
theorem row_opcodes_nodup : (opcodeTable.map fun r => opField r.pattern).Nodup := by decide

/-- A field that is 0 under a full mask is 0. -/
theorem reserved_zero {n : Nat} {x m p : BitVec n} (h : x &&& m = p) (hm : m = BitVec.allOnes n) (hp : p = 0) :
    x = 0 := by
  rw [← hp, ← h, hm, BitVec.and_allOnes]

/-- One instruction of each row, in the order of the map. -/
def rowInstrs : List Instr :=
  [.tick, .trig 0, .bank 0, .rate 0 0, .live 0 0, .tempo 0, .run 0, .record 0, .erase, .dir, .mix, .click, .ovr 0,
    .rdla, .prd 0 0, .chan 0, .div 0, .save 0, .load 0, .boot, .mstart, .mstop, .mcont, .mclk, .mnote 0 0, .mcc 0 0 0]

theorem opcodeTable_eq_rows : opcodeTable = rowInstrs.map Laws.EncodesToItsRow.row := rfl

/-- The operation of the same kind with the operands of a word. -/
def withOperandsOf (w : OpWord) : Instr → Instr
  | .trig _ => .trig (aField w)
  | .bank _ => .bank (aField w)
  | .rate _ _ => .rate (aField w) (dField w)
  | .live _ _ => .live (aField w) (dField w)
  | .tempo _ => .tempo (dField w)
  | .run _ => .run (aField w)
  | .record _ => .record (aField w)
  | .ovr _ => .ovr (aField w)
  | .prd _ _ => .prd (aField w) (dField w)
  | .chan _ => .chan (aField w)
  | .div _ => .div (aField w)
  | .save _ => .save (aField w)
  | .load _ => .load (aField w)
  | .mnote _ _ => .mnote (aField w) (loField w)
  | .mcc _ _ _ => .mcc (aField w) (hiField w) (loField w)
  | i => i

/-- A word an instruction's row covers has that row's opcode, and zero in the fields its format reserves: it is the
encoding of the same operation with the word's operands. -/
theorem encode_withOperandsOf {i : Instr} (h : (Laws.EncodesToItsRow.row i).covers w = true) :
    encode (withOperandsOf w i) = w := by
  have hop := opField_of_covers (Laws.row_mem i) h
  obtain ⟨-, ha, hd, hhi⟩ := fields_of_covers h
  cases i <;> dsimp only [Laws.EncodesToItsRow.row] at hop ha hd hhi <;>
    refine wordOf_of_fields (hop.trans (by decide)) ?_ ?_
  case tick.refine_1 | erase.refine_1 | dir.refine_1 | mix.refine_1 | click.refine_1 | rdla.refine_1 | boot.refine_1 |
      mstart.refine_1 | mstop.refine_1 | mcont.refine_1 | mclk.refine_1 | tempo.refine_1 =>
    exact reserved_zero ha (by decide) (by decide)
  case tick.refine_2 | erase.refine_2 | dir.refine_2 | mix.refine_2 | click.refine_2 | rdla.refine_2 | boot.refine_2 |
      mstart.refine_2 | mstop.refine_2 | mcont.refine_2 | mclk.refine_2 | trig.refine_2 | bank.refine_2 | run.refine_2 |
      record.refine_2 | ovr.refine_2 | chan.refine_2 | div.refine_2 | save.refine_2 | load.refine_2 =>
    exact reserved_zero hd (by decide) (by decide)
  case mnote.refine_2 =>
    rw [← hiField_append_loField, reserved_zero hhi (by decide) (by decide)]
  case mcc.refine_2 => exact (hiField_append_loField w).symm
  all_goals rfl

/-- Settles O4: a legal word is an encoding, which its row covers; rows differ in the opcode. -/
theorem legalWordsAreTheTableRows : Obligations.LegalWordsAreTheTableRows := by
  refine ⟨fun w => ⟨?legal_covered, ?covered_legal⟩, fun w r hr q hq hcr hcq => ?unique⟩
  case legal_covered =>
    rintro ⟨i, hi⟩
    exact ⟨_, Laws.row_mem i, encodeInvertsDecode w i hi ▸ row_covers_encode i⟩
  case covered_legal =>
    rintro ⟨r, hr, hc⟩
    rw [opcodeTable_eq_rows, List.mem_map] at hr
    obtain ⟨i, -, rfl⟩ := hr
    exact ⟨_, encode_withOperandsOf hc ▸ decodeInvertsEncode _⟩
  case unique =>
    exact List.inj_on_of_nodup_map row_opcodes_nodup hr hq
      ((opField_of_covers hr hcr).symm.trans (opField_of_covers hq hcq))

/-- Settles O1: each word is the encoding of its operation. -/
theorem exampleWordsDecode : Obligations.ExampleWordsDecode := by
  have decode_of_encode {w : OpWord} (i : Instr) (h : encode i = w) : decode w = .ok i := h ▸ decodeInvertsEncode i
  exact ⟨decode_of_encode .tick (by decide), decode_of_encode (.trig 2) (by decide),
    decode_of_encode (.rate 0 0x0100) (by decide), decode_of_encode (.live 1 (BitVec.ofInt 16 (-1))) (by decide),
    decode_of_encode (.tempo 9) (by decide), decode_of_encode (.prd 4 31) (by decide),
    decode_of_encode (.mnote 0 0x24) (by decide), decode_of_encode (.mcc 0 0x10 0x40) (by decide)⟩

end Sys2Proof

/-! PROOFS. The commands and messages of one micro-operation that remain, and the first one of `TRIG` (R201, R206,
R207, R212, R214, R263, R281 to R289). -/

namespace Sys2Proof.Machine

variable {s : State}

/-! ### Arguments inside and outside their legal sets (R94) -/

theorem fourArg_of_toNat {a : U8} {k : Fin 4} (h : a.toNat = k.val) : fourArg a = some k := by
  obtain ⟨j, hj, harg⟩ | ⟨hle, -⟩ := fourArg_cases a
  · rw [harg, Fin.ext (hj.symm.trans h)]
  · exact absurd k.isLt (by omega)

theorem fourArg_of_le {a : U8} (h : 4 ≤ a.toNat) : fourArg a = none := dif_neg (not_lt.mpr h)

/-- R206, R207: the mode as a number. -/
theorem modeRequest_eq (m : U8) (now : Bool) : modeRequest m now =
    if m.toNat = 0 then some false else if m.toNat = 1 then some true
    else if m.toNat = 2 then some (!now) else none := by
  have eq_iff (n : Nat) (hn : n < 256) : m = BitVec.ofNat 8 n ↔ m.toNat = n := by
    rw [← BitVec.toNat_inj, BitVec.toNat_ofNat, Nat.mod_eq_of_lt hn]
  simp only [modeRequest, ← eq_iff 0 (by decide), ← eq_iff 1 (by decide), ← eq_iff 2 (by decide)]
  rfl

/-! ### `TRIG` (R201) -/

/-- What an armed `TRIG` leaves still to run after its request. -/
def recordingOps (s : State) (k : TrackId) : List MicroOp :=
  if s.ctl.recArmed then
    [.capture, .recordFlag k s.ctl.bank] ++ (s.cfg.trkLive[k]).toList.map fun r => .recordRate r s.ctl.bank
  else []

theorem trigOps_eq (s : State) (k : TrackId) : trigOps s k = .request k :: recordingOps s k := by
  unfold trigOps recordingOps
  split
  · cases s.cfg.trkLive[k] <;> rfl
  · rfl

theorem exec_trig_of_toNat {a : U8} {k : TrackId} (h : a.toNat = k.val) :
    exec (.trig a) s = .next ((s.setProg (recordingOps s k ++ s.prog)).setReq k) := by
  simp only [exec, execTrig, fourArg_of_toNat h, manualTrigger, trigOps_eq, issue, runMicro]

/-- Settles O39: the request is the first micro-operation, the recording the rest. -/
theorem trigRaisesItsRequest : Obligations.TrigRaisesItsRequest := by
  refine fun a s => ⟨fun k hk => exec_trig_of_toNat hk, fun h => ?_⟩
  simp only [exec, execTrig, fourArg_of_le h]

/-! ### `RUN`, `REC`, `CLICK` (R206, R207, R212) -/

theorem exec_run_eq (a : U8) (s : State) : exec (.run a) s = .next (
    if a.toNat = 0 then s.setRun s.ctl.recArmed
    else if a.toNat = 1 then s.setRun true
    else if a.toNat = 2 then s.setRun (!s.ctl.run || s.ctl.recArmed)
    else s) := by
  simp only [exec, execRun, modeRequest_eq]
  split_ifs <;> rfl

/-- `REC` never stops the transport, and starts it exactly when it arms. -/
theorem exec_record_eq (a : U8) (s : State) : exec (.record a) s = .next (
    if a.toNat = 0 then s.setRec false
    else if a.toNat = 1 then (s.setRec true).setRun true
    else if a.toNat = 2 then (s.setRec (!s.ctl.recArmed)).setRun (s.ctl.run || !s.ctl.recArmed)
    else s) := by
  simp only [exec, execRecord, modeRequest_eq]
  split_ifs
  · simp only [forcedRun, Bool.or_false]; rfl
  · simp only [forcedRun, Bool.or_true]
  · rfl
  · rfl

/-- Settles O44: the modes one by one. -/
theorem runRecAndClickWriteTheirBits : Obligations.RunRecAndClickWriteTheirBits :=
  ⟨exec_run_eq, exec_record_eq, fun _ => rfl⟩

/-! ### `RDLA` and `PRD` (R214, R263) -/

/-- Settles O46: the gated read, and its copy in `rsp`. -/
theorem rdlaReadsTheLookahead : Obligations.RdlaReadsTheLookahead := by
  intro s
  simp only [exec, execRdla, gatedCapture_eq, State.setRsp]

theorem prdArg_flag {a : U8} {d : U16} {k : TrackId} {x : PatIx} (ha : a.toNat = k.val) (hd : d.toNat = x.val) :
    prdArg a d = some (.flag k x) := by
  simp only [prdArg, ha, hd, k.isLt, x.isLt, dif_pos]

theorem prdArg_pitch {a : U8} {d : U16} {p : PairId} {x : PatIx} (ha : a.toNat = 4 + p.val) (hd : d.toNat = x.val) :
    prdArg a d = some (.pitch p x) := by
  have hp := p.isLt
  have hx : d.toNat < 128 := hd ▸ x.isLt
  rw [prdArg, dif_pos hx, dif_neg (by omega), dif_pos (by omega)]
  simp only [hd, ha, Nat.add_sub_cancel_left]

theorem prdArg_outside {a : U8} {d : U16} (h : 6 ≤ a.toNat ∨ 128 ≤ d.toNat) : prdArg a d = none := by
  by_cases hd : d.toNat < 128
  · rw [prdArg, dif_pos hd, dif_neg (by omega), dif_neg (by omega)]
  · rw [prdArg, dif_neg hd]

theorem exec_prd_of_some {a : U8} {d : U16} {e : PatElem} (h : prdArg a d = some e) :
    exec (.prd a d) s = .next (s.setRsp (patValue s e)) := by
  simp only [exec, execPrd, h]

/-- Settles O47: the arrays 0..3, the arrays 4 and 5, and the operands outside. -/
theorem prdReadsOneElement : Obligations.PrdReadsOneElement := by
  refine fun a d s => ⟨fun k x ha hd => ?flag, fun p x ha hd => ?pitch, fun h => ?outside⟩
  case flag =>
    rw [exec_prd_of_some (prdArg_flag ha hd), patValue]
    cases s.flag k x <;> rfl
  case pitch => exact exec_prd_of_some (prdArg_pitch ha hd)
  case outside => simp only [exec, execPrd, prdArg_outside h]

/-! ### The transport messages (R283 to R285) -/

/-- A switch that starts the transport leaves one that runs. -/
theorem or_switch (run switch : Bool) : (run || switch) = if switch then true else run := by
  cases switch <;> simp

/-- Settles O56: each message under either position of its switch. -/
theorem transportMessages : Obligations.TransportMessages := by
  refine ⟨fun s => ?mstart, fun s => ?mstop, fun s => ?mcont⟩
  case mstart => simp only [exec, execMstart, or_switch, State.setDivCnt, State.setRun]
  case mstop => simp [exec, execMstop, State.setDivCnt, State.setPulseKill, State.setRun]
  case mcont => simp only [exec, execMcont, or_switch, State.setRun]

/-! ### The clock message (R281, R292) -/

theorem exec_mclk_running (h : s.ctl.run = true) : exec .mclk s = .next s := by
  simp only [exec, execMclk, if_pos h]

/-- R281 on a stopped transport, the count as a number. -/
theorem exec_mclk_stopped (h : s.ctl.run = false) : exec .mclk s = .next (
    if s.ctl.divN.toNat ≤ (s.ctl.divCnt.toNat + 1) % 256 then (s.setDivCnt 0).setPulseReq
    else s.setDivCnt (s.ctl.divCnt + 1)) := by
  have hnum : (s.ctl.divCnt + 1).toNat = (s.ctl.divCnt.toNat + 1) % 256 := BitVec.toNat_add ..
  simp only [exec, execMclk, h, divHit, hnum, decide_eq_true_eq, Bool.false_eq_true, if_false]
  split_ifs <;> rfl

/-- Settles O57: the two states of the transport. -/
theorem clockMessageCountsWhileStopped : Obligations.ClockMessageCountsWhileStopped :=
  fun _ => ⟨exec_mclk_running, exec_mclk_stopped⟩

/-- One more message of a repetition, at its end. -/
theorem repeated_succ {i : Instr} {t : State} : ∀ {n : Nat} {s : State}, repeated i n s = .next t →
    repeated i (n + 1) s = exec i t
  | 0, s, h => by
    obtain rfl := Host.Outcome.next.inj h
    simp only [repeated]
    cases exec i s <;> rfl
  | n + 1, s, h => by
    rw [repeated] at h ⊢
    cases hexec : exec i s with
    | next u => rw [hexec] at h; exact repeated_succ h
    | fault r => rw [hexec] at h; cases h
    | refused r => rw [hexec] at h; cases h

theorem setDivCnt_of_eq {v : U8} (h : s.ctl.divCnt = v) : s.setDivCnt v = s := by
  subst h
  rfl

/-- A count below N is reached after as many messages, and nothing else has changed (R281). -/
theorem repeated_mclk_counts (hrun : s.ctl.run = false) (hcnt : s.ctl.divCnt = 0) :
    ∀ j, j < s.ctl.divN.toNat → repeated .mclk j s = .next (s.setDivCnt (BitVec.ofNat 8 j))
  | 0, _ => by
    exact congrArg Host.Outcome.next (setDivCnt_of_eq hcnt).symm
  | j + 1, hj => by
    have hN : s.ctl.divN.toNat < 256 := s.ctl.divN.isLt
    rw [repeated_succ (repeated_mclk_counts hrun hcnt j (by omega)), exec_mclk_stopped (by exact hrun), if_neg]
    · exact congrArg (fun v => Host.Outcome.next (s.setDivCnt v)) (BitVec.ofNat_add ..).symm
    · simp only [setDivCnt_ctl, BitVec.toNat_ofNat]
      omega

/-- Settles O58: N-1 messages count, and the N-th reaches N. -/
theorem everyNthClockMessageHits : Obligations.EveryNthClockMessageHits := by
  intro s hrun hcnt hpos
  refine ⟨repeated_mclk_counts hrun hcnt, ?_⟩
  obtain ⟨m, hm⟩ := Nat.exists_eq_succ_of_ne_zero hpos.ne'
  have hN : s.ctl.divN.toNat < 256 := s.ctl.divN.isLt
  rw [hm, repeated_succ (repeated_mclk_counts hrun hcnt m (by omega)), exec_mclk_stopped (by exact hrun), if_pos]
  · exact congrArg (fun t : State => Host.Outcome.next t.setPulseReq) (setDivCnt_of_eq hcnt)
  · simp only [setDivCnt_ctl, BitVec.toNat_ofNat]
    omega

/-! ### The control message (R286, R289) -/

theorem ccIdsNodup_of_wf {c : Cfg} (h : c.wf = true) : c.ccId.toList.Nodup := by
  simp only [Cfg.wf, Bool.and_eq_true] at h
  obtain ⟨-, -, -, -, -, -, -, -, -, -, -, hids, -⟩ := h
  exact (distinct_iff_nodup _).mp hids

theorem ccIndex_of_mem {c : Cfg} (h : c.ccId.toList.Nodup) (r : Fin 4) : ccIndex c c.ccId[r] = some r :=
  findFour_eq_some_of_unique (beq_self_eq_true _) fun j hj => eq_of_getElem_eq_of_nodup h j r (beq_iff_eq.mp hj)

theorem ccIndex_of_ne {c : Cfg} {id : U8} (h : ∀ r : Fin 4, id ≠ c.ccId[r]) : ccIndex c id = none :=
  findFour_eq_none fun r => beq_false_of_ne (h r).symm

theorem exec_mcc_of_other_channel {ch id value : U8} (h : ch ≠ s.ctl.chan) : exec (.mcc ch id value) s = .next s :=
  if_neg h

theorem exec_mcc_of_some {ch id value : U8} {r : Fin 4} (h : ch = s.ctl.chan) (hidx : ccIndex s.cfg id = some r) :
    exec (.mcc ch id value) s = .next (writeRate s r (ccToRate s.cfg value)) := by
  simp only [exec, execMcc, if_pos h, hidx]

theorem exec_mcc_of_none {ch id value : U8} (h : ch = s.ctl.chan) (hidx : ccIndex s.cfg id = none) :
    exec (.mcc ch id value) s = .next s := by
  simp only [exec, execMcc, if_pos h, hidx]

theorem exec_mcc_completes (ch id value : U8) (s : State) : ∃ t, exec (.mcc ch id value) s = .next t := by
  simp only [exec, execMcc]
  split
  · split <;> exact ⟨_, rfl⟩
  · exact ⟨_, rfl⟩

/-- The reference mapping `v << 4` loses no bit (R289). -/
theorem ccToRate_reference {c : Cfg} (h : c.ccToRate = .reference) (v : U8) :
    (ccToRate c v).toNat = 16 * v.toNat := by
  have hv := v.isLt
  simp only [ccToRate, h, BitVec.toNat_shiftLeft, BitVec.toNat_setWidth, Nat.shiftLeft_eq]
  omega

/-- Settles O60: the identifiers being distinct, a mapped one is found at its own index. -/
theorem controlMessageSetsItsRate : Obligations.ControlMessageSetsItsRate := by
  intro ch id value s hwf
  refine ⟨exec_mcc_completes ch id value s, exec_mcc_of_other_channel, fun hch => ⟨fun r hid => ?mapped,
    fun hne => ?unmapped⟩, fun h => ccToRate_reference h value⟩
  case mapped =>
    rw [exec_mcc_of_some hch (hid ▸ ccIndex_of_mem (ccIdsNodup_of_wf hwf) r), exec_rate_of_some s _ (fourArg_ofNat r)]
  case unmapped => exact exec_mcc_of_none hch (ccIndex_of_ne hne)

end Sys2Proof.Machine

/-! PROOFS. What a move of the control port does to each part of the state, once (R11, R33, R76, R263 to R265). -/

namespace Sys2Proof.Machine

variable {s t : State}

/-! ### What a micro-operation puts into the list, stores, and leaves -/

/-- Unpacking a byte writes the pattern store alone (R239). -/
theorem unpackByte_pat_only (s : State) (even odd : PatIx) (b : U8) :
    ∃ p, unpackByte s even odd b = { s with pat := p } := by
  have setFlag_pat_only {u : State} (k : TrackId) (x : PatIx) (v : Bool) (hu : ∃ p, u = { s with pat := p }) :
      ∃ p, u.setFlag k x v = { s with pat := p } := by
    obtain ⟨p, rfl⟩ := hu
    exact ⟨_, rfl⟩
  unfold unpackByte
  iterate 8 apply setFlag_pat_only
  exact ⟨s.pat, rfl⟩

/-- Applying a settings byte writes four registers (R234, R247). -/
theorem applySettings_eq (s : State) (x : U8) : applySettings s x = { s with ctl := { s.ctl with
    run := x.getLsbD 0, dir := x.getLsbD 1, mix := x.getLsbD 2, click := x.getLsbD 3 } } := by
  simp only [applySettings, State.setRun, State.setDir, State.setMix, State.setClick]

/-- What a micro-operation puts in front of the rest of its command (log 1). -/
def followUps (s : State) : MicroOp → List MicroOp
  | .readSettings => [.writeSettings (Memory.read s.nv 3)]
  | .bootMagic0 => [.bootMagic1 (Memory.read s.nv 0)]
  | .bootMagic1 m0 =>
    if magicOk s.cfg m0 (Memory.read s.nv 1) then restoreOps else factoryOps s.cfg ++ restoreOps
  | _ => []

theorem runMicro_prog {u : MicroOp} (h : runMicro u s = .next t) : t.prog = followUps s u ++ s.prog := by
  have heff := runMicro_next h
  cases u <;> simp only [MicroEffect] at heff
  case capture => rw [heff, gatedCapture_eq]; rfl
  case unpackFlags e o a =>
    obtain ⟨p, hp⟩ := unpackByte_pat_only s e o (Memory.read s.nv a)
    rw [heff, hp]
    rfl
  case recordFlag | recordRate =>
    obtain ⟨x, -, rfl⟩ := heff
    rfl
  case packFlags | packPitch | nvFill =>
    obtain ⟨-, rfl⟩ := heff
    rfl
  all_goals subst heff; rfl

/-- A micro-operation stores one byte at its store address, which exists (R76), or stores nothing. -/
theorem runMicro_nv {u : MicroOp} (h : runMicro u s = .next t) :
    (u.storeAddr = none ∧ t.nv = s.nv) ∨
      ∃ a b, u.storeAddr = some a ∧ a < nvSize s.cfg ∧ t.nv = Memory.write s.nv a b := by
  cases u
  case packFlags | packPitch | writeSettings | writeBank | writeChan | writeSlot | nvFill =>
    obtain ⟨ha, rfl⟩ := nvWrite_next h
    exact .inr ⟨_, _, rfl, ha, rfl⟩
  case recordFlag | recordRate =>
    obtain ⟨x, -, rfl⟩ := runMicro_next h
    exact .inl ⟨rfl, rfl⟩
  all_goals
    have heff := runMicro_next h
    simp only [MicroEffect] at heff
  case capture => exact .inl ⟨rfl, by rw [heff, gatedCapture_eq]⟩
  case unpackFlags e o a =>
    obtain ⟨-, -, -, -, hnv, -⟩ := unpackByte_rest s e o (Memory.read s.nv a)
    exact .inl ⟨rfl, heff ▸ hnv⟩
  all_goals exact .inl ⟨rfl, heff ▸ rfl⟩

/-- Where a strobe stands after the control port's move: as before, or, after a gated read, in `tick_pend` with the
gate open (R263, R265). The words still to come are as before. -/
structure KeepsPorts (s t : State) : Prop where
  strobe : (t.inhibit = s.inhibit ∧ t.tickPend = s.tickPend ∧ t.tickStb = s.tickStb) ∨
    (t.inhibit = false ∧ t.tickPend = (s.tickPend || s.tickStb) ∧ t.tickStb = false)
  sched : t.sched = s.sched
  trace : t.trace = s.trace

theorem KeepsPorts.of_unchanged (hinhibit : t.inhibit = s.inhibit) (hpend : t.tickPend = s.tickPend)
    (hstb : t.tickStb = s.tickStb) (hsched : t.sched = s.sched) (htrace : t.trace = s.trace) : KeepsPorts s t :=
  ⟨.inl ⟨hinhibit, hpend, hstb⟩, hsched, htrace⟩

theorem runMicro_keepsPorts {u : MicroOp} (h : runMicro u s = .next t) : KeepsPorts s t := by
  have heff := runMicro_next h
  cases u <;> simp only [MicroEffect] at heff
  case capture =>
    rw [heff, gatedCapture_eq]
    exact ⟨.inr ⟨rfl, rfl, rfl⟩, rfl, rfl⟩
  case unpackFlags e o a =>
    obtain ⟨p, hp⟩ := unpackByte_pat_only s e o (Memory.read s.nv a)
    rw [heff, hp]
    exact .of_unchanged rfl rfl rfl rfl rfl
  case restoreSettings =>
    rw [heff, applySettings_eq]
    exact .of_unchanged rfl rfl rfl rfl rfl
  case recordFlag | recordRate =>
    obtain ⟨x, -, rfl⟩ := heff
    exact .of_unchanged rfl rfl rfl rfl rfl
  case packFlags | packPitch | nvFill =>
    obtain ⟨-, rfl⟩ := heff
    exact .of_unchanged rfl rfl rfl rfl rfl
  all_goals subst heff; exact .of_unchanged rfl rfl rfl rfl rfl

/-! ### What an operation does: a command's micro-operations, a gated read, or a register write -/

/-- The micro-operations an operation issues; none for one that only writes registers (R11). -/
def commandOps (s : State) : Instr → List MicroOp
  | .trig a => (fourArg a).elim [] (trigOps s)
  | .erase => eraseOps s.ctl.bank
  | .save a => (fourArg a).elim [] fun n => saveOps s.ctl.bank n (slotBase s.cfg n)
  | .load a => (fourArg a).elim [] fun n => loadOps s.ctl.bank (slotBase s.cfg n)
  | .boot => [.bootMagic0]
  | .mnote ch id =>
    match noteAct s.cfg id with
    | .trig k => if ch = s.ctl.chan then trigOps s k else []
    | _ => []
  | _ => []

/-- The operations that are a command of micro-operations alone (R11). -/
def issues : Instr → Bool
  | .trig _ | .erase | .save _ | .load _ | .boot => true
  | _ => false

theorem exec_eq_issue {i : Instr} (hi : issues i = true) (s : State) : exec i s = issue (commandOps s i) s := by
  cases i <;> simp only [issues, Bool.false_eq_true] at hi
  case erase | boot => simp only [exec, execErase, execBoot, commandOps]
  case trig a | save a | load a =>
    simp only [exec, execTrig, execSave, execLoad, commandOps]
    cases fourArg a <;> rfl

/-- Only registers of the control group are written, and requests raised. A transport that is stopped while armed
was so before (R206, R207). -/
structure RegisterWrite (s t : State) : Prop where
  cfg : t.cfg = s.cfg
  eng : t.eng = s.eng
  pat : t.pat = s.pat
  nv : t.nv = s.nv
  prog : t.prog = s.prog
  ports : t.inhibit = s.inhibit ∧ t.tickPend = s.tickPend ∧ t.tickStb = s.tickStb
  sched : t.sched = s.sched
  trace : t.trace = s.trace
  laHold : t.ctl.laHold = s.ctl.laHold
  forced : t.ctl.recArmed = true → t.ctl.run = true ∨ (s.ctl.recArmed = true ∧ s.ctl.run = false)

theorem forced_of_unchanged (hrec : t.ctl.recArmed = s.ctl.recArmed) (hrun : t.ctl.run = s.ctl.run) :
    t.ctl.recArmed = true → t.ctl.run = true ∨ (s.ctl.recArmed = true ∧ s.ctl.run = false) := by
  intro h
  cases hs : s.ctl.run
  · exact .inr ⟨hrec ▸ h, rfl⟩
  · exact .inl (hrun.trans hs)

namespace RegisterWrite

theorem of_ctl {c : Control} {r : Requests} (hla : c.laHold = s.ctl.laHold)
    (hforced : c.recArmed = true → c.run = true ∨ (s.ctl.recArmed = true ∧ s.ctl.run = false)) :
    RegisterWrite s { s with ctl := c, reqs := r } :=
  ⟨rfl, rfl, rfl, rfl, rfl, ⟨rfl, rfl, rfl⟩, rfl, rfl, hla, hforced⟩

/-- A write that neither stops or starts the transport nor arms or disarms. -/
theorem of_other {c : Control} {r : Requests} (hla : c.laHold = s.ctl.laHold) (hrec : c.recArmed = s.ctl.recArmed)
    (hrun : c.run = s.ctl.run) : RegisterWrite s { s with ctl := c, reqs := r } :=
  of_ctl hla (forced_of_unchanged (t := { s with ctl := c }) hrec hrun)

theorem refl (s : State) : RegisterWrite s s := of_other (c := s.ctl) (r := s.reqs) rfl rfl rfl

theorem of_next {u : State} (h : (.next u : Result) = .next t) (hu : RegisterWrite s u) : RegisterWrite s t :=
  Host.Outcome.next.inj h ▸ hu

theorem keepsPorts (h : RegisterWrite s t) : KeepsPorts s t := ⟨.inl h.ports, h.sched, h.trace⟩

end RegisterWrite

theorem writeRate_registerWrite (s : State) (r : Fin 4) (v : S16) : RegisterWrite s (writeRate s r v) := by
  rw [writeRate_eq]
  split <;> exact .of_other rfl rfl rfl

/-- While armed, `RUN` leaves the transport running (R206). -/
theorem exec_run_registerWrite {a : U8} (h : exec (.run a) s = .next t) : RegisterWrite s t := by
  simp only [exec, execRun] at h
  split at h
  · exact .of_next h (.of_ctl rfl fun hrec => .inl (by simp [forcedRun, show s.ctl.recArmed = true from hrec]))
  · exact .of_next h (.refl s)

/-- Arming starts the transport (R207). -/
theorem exec_record_registerWrite {a : U8} (h : exec (.record a) s = .next t) : RegisterWrite s t := by
  simp only [exec, execRecord] at h
  split at h
  case h_1 r _ =>
    exact .of_next h (.of_ctl rfl fun hrec => .inl (by simp [forcedRun, show r = true from hrec]))
  case h_2 => exact .of_next h (.refl s)

/-- The transport messages never stop an armed transport (R283 to R285). -/
theorem exec_transport_registerWrite {i : Instr} (hi : i = .mstart ∨ i = .mstop ∨ i = .mcont)
    (h : exec i s = .next t) : RegisterWrite s t := by
  have keeps {run : Bool} (hrun : s.ctl.recArmed = true → s.ctl.run = true → run = true) :
      s.ctl.recArmed = true → run = true ∨ (s.ctl.recArmed = true ∧ s.ctl.run = false) := by
    intro hrec
    cases hs : s.ctl.run
    · exact .inr ⟨hrec, rfl⟩
    · exact .inl (hrun hrec hs)
  obtain rfl | rfl | rfl := hi
  · exact .of_next h (.of_ctl rfl (keeps fun _ hrun => by simp [hrun]))
  · exact .of_next h (.of_ctl rfl (keeps fun hrec hrun => by simp [hrec, hrun]))
  · exact .of_next h (.of_ctl rfl (keeps fun _ hrun => by simp [hrun]))

/-- Everything an operation of the control port can do when it gives a next state. -/
theorem exec_next {i : Instr} (hi : i ≠ .tick) (h : exec i s = .next t) :
    RegisterWrite s t ∨ issue (commandOps s i) s = .next t ∨
      (i = .rdla ∧ t = (gatedCapture s).setRsp (gatedCapture s).ctl.laHold) := by
  cases i
  case tick => exact absurd rfl hi
  case rdla => exact .inr (.inr ⟨rfl, (Host.Outcome.next.inj h).symm⟩)
  case trig | erase | save | load | boot => exact .inr (.inl ((exec_eq_issue rfl s).symm.trans h))
  case mnote ch id =>
    simp only [exec, execMnote] at h
    simp only [commandOps]
    split at h
    case isFalse => exact .inl (.of_next h (.refl s))
    case isTrue hch =>
      cases hact : noteAct s.cfg id <;> rw [hact] at h
      case trig k => simp only [if_pos hch]; exact .inr (.inl h)
      all_goals exact .inl (.of_next h (.of_other rfl rfl rfl))
  case run => exact .inl (exec_run_registerWrite h)
  case record => exact .inl (exec_record_registerWrite h)
  case mstart | mstop | mcont => exact .inl (exec_transport_registerWrite (by simp) h)
  case tempo | dir | mix | click | chan | div => exact .inl (.of_next h (.of_other rfl rfl rfl))
  case bank | live | ovr | prd =>
    simp only [exec, execBank, execLive, execOvr, execPrd] at h
    split at h <;> exact .inl (.of_next h (.of_other rfl rfl rfl))
  case rate =>
    simp only [exec, execRate] at h
    split at h
    · exact .inl (.of_next h (writeRate_registerWrite s _ _))
    · exact .inl (.of_next h (.refl s))
  case mclk =>
    simp only [exec, execMclk] at h
    split_ifs at h <;> exact .inl (.of_next h (.of_other rfl rfl rfl))
  case mcc =>
    simp only [exec, execMcc] at h
    split at h
    · split at h
      · exact .inl (.of_next h (writeRate_registerWrite s _ _))
      · exact .inl (.of_next h (.refl s))
    · exact .inl (.of_next h (.refl s))

/-! ### The ports after an operation and after a move -/

theorem issue_keepsPorts {us : List MicroOp} (h : issue us s = .next t) : KeepsPorts s t := by
  obtain ⟨-, rfl⟩ | ⟨u, rest, -, hu⟩ := issue_next h
  · exact .of_unchanged rfl rfl rfl rfl rfl
  · exact ⟨(runMicro_keepsPorts hu).strobe, (runMicro_keepsPorts hu).sched, (runMicro_keepsPorts hu).trace⟩

theorem exec_keepsPorts {i : Instr} (hi : i ≠ .tick) (h : exec i s = .next t) : KeepsPorts s t := by
  obtain hw | hissue | ⟨-, rfl⟩ := exec_next hi h
  · exact hw.keepsPorts
  · exact issue_keepsPorts hissue
  · rw [gatedCapture_eq]
    exact ⟨.inr ⟨rfl, rfl, rfl⟩, rfl, rfl⟩

/-- Where a strobe stands after any move of the control port (R263, R265). -/
theorem controlMove_strobe (h : controlMove s = .next t) :
    (t.inhibit = s.inhibit ∧ t.tickPend = s.tickPend ∧ t.tickStb = s.tickStb) ∨
      (t.inhibit = false ∧ t.tickPend = (s.tickPend || s.tickStb) ∧ t.tickStb = false) := by
  obtain ⟨u, us, -, hu⟩ | ⟨w, ws, i, -, -, -, hi, hexec⟩ | ⟨-, -, rfl⟩ := controlMove_next h
  · exact (runMicro_keepsPorts hu).strobe
  · exact (exec_keepsPorts hi hexec).strobe
  · exact .inl ⟨rfl, rfl, rfl⟩

end Sys2Proof.Machine

/-! PROOFS. The step: which boundary runs what, the refusals, and the strobe that is held, taken and spent (R11, R33,
R90, R91, R95, R265, R313, R314, R317, R340). -/

namespace Sys2Proof.Machine

variable {s t : State}

/-! ### The control port's move, by what is to come -/

theorem controlMove_of_prog {u : MicroOp} {us : List MicroOp} (h : s.prog = u :: us) :
    controlMove s = runMicro u (s.setProg us) := by
  simp only [controlMove, h]

theorem controlMove_of_illegal {w : OpWord} {ws : List OpWord} {e : DecodeError} (hprog : s.prog = [])
    (htrace : s.trace = w :: ws) (hdec : decode w = .error e) : controlMove s = .refused (.illegalWord w e) := by
  simp only [controlMove, hprog, acceptWord, htrace, hdec]

theorem controlMove_of_tickWord {w : OpWord} {ws : List OpWord} (hprog : s.prog = [])
    (htrace : s.trace = w :: ws) (hdec : decode w = .ok .tick) : controlMove s = .refused .tickOnPort := by
  simp only [controlMove, hprog, acceptWord, htrace, hdec, if_true]

theorem controlMove_of_idle (hprog : s.prog = []) (htrace : s.trace = []) : controlMove s = .next s := by
  simp only [controlMove, hprog, acceptWord, htrace]

/-! ### The boundary -/

theorem step_of_illFormed (h : s.cfg.wf = false) : step s = .refused .illFormedConfig := by
  rw [step, stepMachine, h, if_neg Bool.false_ne_true]

/-- A waiting strobe is taken before anything else (R265, R314). -/
theorem step_of_due (hwf : s.cfg.wf = true) (hdue : s.strobeDue = true) : step s = .next (tick s.takeStrobe) := by
  rw [step_eq_advance hwf, advanceMachine, if_pos hdue]
  rfl

/-- A held strobe is taken at the next boundary with the gate open, and is then held no more (R265, R313). -/
theorem step_of_held (hwf : s.cfg.wf = true) (hopen : s.inhibit = false) (hpend : s.tickPend = true) :
    step s = .next (tick { s with tickPend := false }) := by
  rw [step_of_due hwf (by simp [State.strobeDue, hopen, hpend]), State.takeStrobe, if_pos hpend, State.setTickPend]

theorem strobeDue_of_none (hpend : s.tickPend = false) (hstb : s.tickStb = false) : s.strobeDue = false := by
  simp [State.strobeDue, hpend, hstb]

theorem step_of_quiet (hwf : s.cfg.wf = true) (hq : s.quiet) : step s = controlMove s := by
  obtain ⟨-, hpend, hstb, hsched⟩ := hq
  exact step_of_empty hwf (strobeDue_of_none hpend hstb) hsched

/-! ### The statements -/

/-- Settles O6: the port's move in each slot is the next micro-operation. -/
theorem stepRunsTheNextMicroOperation : Obligations.StepRunsTheNextMicroOperation := by
  refine fun s u us hwf hdue hprog => ⟨fun hs => ?empty, fun r hs => ?control, fun r hs => ?overlap,
    fun r t hs hu => ?command⟩
  case empty =>
    rw [step_of_empty hwf hdue hs]
    exact controlMove_of_prog hprog
  case control =>
    rw [step_of_control hwf hdue hs]
    exact controlMove_of_prog (s := s.setSched r) hprog
  case overlap =>
    rw [step_of_overlap hwf hdue hs]
    exact controlMove_of_prog (s := (s.setSched r).setTickStb true) hprog
  case command =>
    rw [step_of_command hwf hdue hs]
    exact keepLine_of_next ((controlMove_of_prog (s := s.setSched r) hprog).trans hu)

/-- Settles O7: the port refuses a word that decodes to nothing or to `TICK`, the step an ill-formed configuration. -/
theorem illegalWordsAndConfigurationsAreRefused : Obligations.IllegalWordsAndConfigurationsAreRefused := by
  refine ⟨fun s w ws hwf hq hprog htrace => ?_, fun s => step_of_illFormed⟩
  rw [step_of_quiet hwf hq]
  exact ⟨fun e => controlMove_of_illegal hprog htrace, controlMove_of_tickWord hprog htrace⟩

/-- Settles O8: with nothing to do the port waits. -/
theorem idleMachineWaits : Obligations.IdleMachineWaits := by
  intro s hwf hq hprog htrace
  rw [step_of_quiet hwf hq, controlMove_of_idle hprog htrace]

/-- Settles O9: the slot's strobe runs the tick, which leaves the command and the words. -/
theorem strobeAtABoundaryRunsAWholeTick : Obligations.StrobeAtABoundaryRunsAWholeTick := by
  intro s r hwf hopen hpend hstb hsched
  refine ⟨tick (s.setSched r), ?_, rfl, tick_prog _, tick_trace _⟩
  rw [step_of_tick hwf (strobeDue_of_none hpend hstb) hsched, strobe_of_open (by exact hopen)]
  rfl

/-- Settles O10: the gated read captures, holds the strobe and opens the gate, so the tick is next. -/
theorem strobeUnderTheGateIsHeldAndTakenNext : Obligations.StrobeUnderTheGateIsHeldAndTakenNext := by
  intro s us r hwf hopen hpend hstb hprog hsched
  have hstep : step s = .next (gatedCapture (((s.setSched r).setTickStb true).setProg us)) := by
    rw [step_of_overlap hwf (strobeDue_of_none hpend hstb) hsched,
      controlMove_of_prog (s := (s.setSched r).setTickStb true) hprog, runMicro]
  rw [gatedCapture_eq] at hstep
  exact ⟨_, hstep, Bool.or_true _, rfl, rfl, rfl, rfl, rfl, step_of_held hwf rfl (Bool.or_true _)⟩

/-! ### A strobe that overlaps a move (R265, R313) -/

/-- After a move with a strobe on the port exactly one strobe waits, and the gate is open: it is due. -/
theorem strobeDue_of_overlap (hopen : s.inhibit = false) (hpend : s.tickPend = false) (hstb : s.tickStb = true)
    (h : controlMove s = .next t) :
    t.inhibit = false ∧ ((t.tickPend = false ∧ t.tickStb = true) ∨ (t.tickPend = true ∧ t.tickStb = false)) := by
  obtain ⟨hi, hp, hb⟩ | ⟨hi, hp, hb⟩ := controlMove_strobe h
  · exact ⟨hi.trans hopen, .inl ⟨hp.trans hpend, hb.trans hstb⟩⟩
  · exact ⟨hi, .inr ⟨by rw [hp, hstb, Bool.or_true], hb⟩⟩

/-- Settles O11: the one strobe that waits is due, and taking it leaves none. -/
theorem overlappingStrobeIsNeverLost : Obligations.OverlappingStrobeIsNeverLost := by
  intro s t r hwf hopen hpend hstb hsched hstep
  rw [step_of_overlap hwf (strobeDue_of_none hpend hstb) hsched] at hstep
  have hcfg : t.cfg = s.cfg := (controlMove_leavesEngine hstep).cfg
  obtain ⟨hi, hwaits⟩ := strobeDue_of_overlap (s := (s.setSched r).setTickStb true) hopen hpend rfl hstep
  have hdue : t.strobeDue = true := by
    obtain ⟨hp, hb⟩ | ⟨hp, hb⟩ := hwaits <;> simp [State.strobeDue, hi, hp, hb]
  refine ⟨step_of_due (hcfg ▸ hwf) hdue, strobeDue_of_none ?_ ?_⟩
  · obtain ⟨hp, -⟩ | ⟨hp, -⟩ := hwaits <;> simp [State.takeStrobe, hp]
  · obtain ⟨hp, hb⟩ | ⟨hp, hb⟩ := hwaits <;> simp [State.takeStrobe, hp, hb]

end Sys2Proof.Machine

/-! PROOFS. The tick's frame, its sequencer and its output pulse (R120 to R128). -/

namespace Sys2Proof.Machine

variable {s t : State}

theorem exec_tick (s : State) : exec .tick s = .next (tick s) := rfl

/-! ### Phase 1, transport state by transport state (R121 to R124) -/

theorem seqOut_of_stopped (h : s.ctl.run = false) : seqOut s = { pos := 31, elapsed := 0, edge := false } := by
  simp only [seqOut, advance, h, Bool.false_eq_true, if_false]

theorem seqOut_of_override (hrun : s.ctl.run = true) (hovr : s.ctl.ovr = true) :
    seqOut s = { pos := s.eng.pos, elapsed := s.eng.elapsed, edge := false } := by
  simp only [seqOut, advance, hrun, hovr, if_true]

section Running
variable (hrun : s.ctl.run = true) (hovr : s.ctl.ovr = false)
include hrun hovr

theorem seqOut_of_running : seqOut s =
    if s.ctl.tempo.toNat < (s.eng.elapsed.toNat + 1) % 2 ^ 16 then
      { pos := s.eng.pos + 1, elapsed := 0, edge := true }
    else { pos := s.eng.pos, elapsed := s.eng.elapsed + 1, edge := false } := by
  have hnum : (s.eng.elapsed + 1).toNat = (s.eng.elapsed.toNat + 1) % 2 ^ 16 := BitVec.toNat_add ..
  simp only [seqOut, advance, hrun, hovr, hnum, Bool.false_eq_true, if_true, if_false]

theorem seqOut_of_past (h : s.ctl.tempo.toNat < (s.eng.elapsed.toNat + 1) % 2 ^ 16) :
    seqOut s = { pos := s.eng.pos + 1, elapsed := 0, edge := true } := by
  rw [seqOut_of_running hrun hovr, if_pos h]

theorem seqOut_of_within (h : ¬ s.ctl.tempo.toNat < (s.eng.elapsed.toNat + 1) % 2 ^ 16) :
    seqOut s = { pos := s.eng.pos, elapsed := s.eng.elapsed + 1, edge := false } := by
  rw [seqOut_of_running hrun hovr, if_neg h]

end Running

/-- Phase 1 keeps the position, advances it or forces it to 31 (R121 to R123). -/
theorem seqOut_pos_cases (s : State) :
    (seqOut s).pos = s.eng.pos ∨ (seqOut s).pos = s.eng.pos + 1 ∨ (seqOut s).pos = 31 := by
  cases hrun : s.ctl.run
  · exact .inr (.inr (by rw [seqOut_of_stopped hrun]))
  cases hovr : s.ctl.ovr
  · by_cases h : s.ctl.tempo.toNat < (s.eng.elapsed.toNat + 1) % 2 ^ 16
    · exact .inr (.inl (by rw [seqOut_of_past hrun hovr h]))
    · exact .inl (by rw [seqOut_of_within hrun hovr h])
  · exact .inl (by rw [seqOut_of_override hrun hovr])

theorem toNat_pos_succ (p : Step32) : (p + 1).toNat = (p.toNat + 1) % 32 := BitVec.toNat_add ..

theorem toNat_widened_pos (p : Step32) : (p.setWidth 16).toNat = p.toNat := by
  have := p.isLt
  rw [BitVec.toNat_setWidth]
  omega

/-- The lookahead as a number (R124). -/
theorem toNat_lookahead (tempo elapsed : U16) (pos : Step32) : (lookahead tempo elapsed pos).toNat =
    if tempo.toNat / 2 < elapsed.toNat then (pos.toNat + 1) % 32 else pos.toNat := by
  simp only [lookahead, backHalf, decide_eq_true_eq]
  split
  · rw [toNat_widened_pos, toNat_pos_succ]
  · rw [toNat_widened_pos]

theorem toNat_lookahead_lt (tempo elapsed : U16) (pos : Step32) : (lookahead tempo elapsed pos).toNat < 32 := by
  have := pos.isLt
  rw [toNat_lookahead]
  split <;> omega

/-! ### The statements on one tick -/

/-- Settles O21: the frame of `tick`, field by field. -/
theorem tickWritesNothingTheControlPortOwns : Obligations.TickWritesNothingTheControlPortOwns := by
  intro s
  refine ⟨tick s, rfl, tick_ctl s, fun k x => ?_, fun p x => ?_, fun a => by rw [tick_nv], tick_cfg s, tick_prog s,
    tick_trace s, tick_sched s, tick_inhibit s, tick_tickPend s, tick_tickStb s, fun k => ?_, ?_, ?_, tick_samples s⟩
  · simp only [State.flag, tick_pat]
  · simp only [State.pitch, tick_pat]
  · simp [tick_reqs, Requests.none]
  · rw [tick_reqs]; rfl
  · rw [tick_reqs]; rfl

/-- Settles O25: past the tempo, or within it. -/
theorem runningTickAdvancesPastTempo : Obligations.RunningTickAdvancesPastTempo := by
  refine fun s hrun hovr => ⟨tick s, rfl, ?_⟩
  rw [tick_pos, tick_elapsed, stepEdge]
  split
  case isTrue h =>
    rw [seqOut_of_past hrun hovr h]
    exact ⟨toNat_pos_succ _, rfl, rfl⟩
  case isFalse h =>
    rw [seqOut_of_within hrun hovr h]
    exact ⟨rfl, BitVec.toNat_add .., rfl⟩

/-- Settles O26: the stopped transport, and the override of a running one. -/
theorem stoppedTickForcesAndOverrideHolds : Obligations.StoppedTickForcesAndOverrideHolds := by
  refine fun s => ⟨tick s, rfl, fun hrun => ?_, fun hrun hovr => ?_⟩
  · rw [tick_pos, tick_elapsed, stepEdge, seqOut_of_stopped hrun]
    exact ⟨rfl, rfl, rfl⟩
  · rw [tick_pos, tick_elapsed, stepEdge, seqOut_of_override hrun hovr]
    exact ⟨rfl, rfl, rfl⟩

theorem toNat_tick_la (s : State) : (tick s).eng.la.toNat =
    if s.ctl.tempo.toNat / 2 < (tick s).eng.elapsed.toNat then ((tick s).eng.pos.toNat + 1) % 32
    else (tick s).eng.pos.toNat := by
  rw [tick_la, tick_pos, tick_elapsed, toNat_lookahead]

theorem toNat_tick_la_lt (s : State) : (tick s).eng.la.toNat < 32 := by
  rw [tick_la]
  exact toNat_lookahead_lt ..

/-- Settles O27: the lookahead is computed from the position and the counter the tick leaves. -/
theorem lookaheadFollowsTheHalfStep : Obligations.LookaheadFollowsTheHalfStep :=
  fun s => ⟨tick s, rfl, toNat_tick_la_lt s, toNat_tick_la s⟩

/-! ### The output pulse (R127) -/

/-- The three sources one after another: a later one overwrites an earlier one. -/
theorem pulseLoad_eq (ticks cnt : U8) (edge req kill : Bool) : pulseLoad ticks cnt edge req kill =
    if kill then 0 else if req then ticks else if edge then ticks else cnt := by
  cases kill <;> cases req <;> cases edge <;> rfl

/-- The pulse count of the tick that starts in s, before it is counted down. -/
def pulseLoaded (s : State) : U8 :=
  pulseLoad s.cfg.pulseTicks s.eng.pulseCnt (stepEdge s) s.reqs.pulseReq s.reqs.pulseKill

theorem tick_clkOut_eq (s : State) : (tick s).eng.clkOut = decide (0 < (pulseLoaded s).toNat) := by
  have hzero : (pulseLoaded s != 0) = decide (0 < (pulseLoaded s).toNat) := by
    rw [Bool.eq_iff_iff, bne_iff_ne, decide_eq_true_eq, Nat.pos_iff_ne_zero]
    exact not_congr BitVec.toNat_inj.symm
  exact (tick_clkOut s).trans hzero

theorem toNat_tick_pulseCnt (s : State) : (tick s).eng.pulseCnt.toNat = (pulseLoaded s).toNat - 1 := by
  have hcnt : (tick s).eng.pulseCnt = if pulseLoaded s = 0 then 0 else pulseLoaded s - 1 := tick_pulseCnt s
  rw [hcnt]
  split
  case isTrue h => rw [h]; rfl
  case isFalse h => bv_omega

/-- Settles O30: the loaded count by its sources, the line and the countdown from it. -/
theorem tickMakesTheOutputPulse : Obligations.TickMakesTheOutputPulse := by
  refine fun s => ⟨tick s, rfl, ?_⟩
  have hloaded := pulseLoad_eq s.cfg.pulseTicks s.eng.pulseCnt (stepEdge s) s.reqs.pulseReq s.reqs.pulseKill
  dsimp only
  rw [← hloaded, tick_reqs]
  exact ⟨rfl, rfl, tick_clkOut_eq s, toNat_tick_pulseCnt s⟩

/-! ### The position along steps and ticks (R126, R128) -/

/-- Settles O28: only a tick writes the position; advancing it decreases it from 31 alone. -/
theorem positionDecreasesOnlyByWraparound : Obligations.PositionDecreasesOnlyByWraparound := by
  intro s t h
  obtain ⟨r, p, b, rfl⟩ | hleaves := step_tick_or_leavesEngine h
  case inr => rw [hleaves.eng]; exact ⟨.inl rfl, fun hlt => absurd hlt (lt_irrefl _)⟩
  case inl =>
    have hlt := s.eng.pos.isLt
    rw [tick_pos]
    obtain hpos | hpos | hpos := seqOut_pos_cases { s with sched := r, tickPend := p, tickStb := b }
    · rw [hpos]
      exact ⟨.inl rfl, fun hlt => absurd hlt (lt_irrefl _)⟩
    · rw [hpos]
      refine ⟨.inr (.inl (toNat_pos_succ _)), fun hdec => ?_⟩
      dsimp only at hdec ⊢
      rw [toNat_pos_succ] at hdec
      have hlast : s.eng.pos = 31 := BitVec.eq_of_toNat_eq (by show s.eng.pos.toNat = 31; omega)
      exact ⟨hlast, by rw [hlast]; rfl⟩
    · rw [hpos]
      refine ⟨.inr (.inr rfl), fun hdec => ?_⟩
      have : (31 : Step32).toNat = 31 := rfl
      omega

theorem ticks_succ : ∀ (n : Nat) (s : State), ticks (n + 1) s = tick (ticks n s)
  | 0, _ => rfl
  | n + 1, s => ticks_succ n (tick s)

@[simp] theorem ticks_ctl (n : Nat) (s : State) : (ticks n s).ctl = s.ctl := by
  induction n with
  | zero => rfl
  | succ n ih => rw [ticks_succ, tick_ctl, ih]

@[simp] theorem ticks_cfg (n : Nat) (s : State) : (ticks n s).cfg = s.cfg := by
  induction n with
  | zero => rfl
  | succ n ih => rw [ticks_succ, tick_cfg, ih]

section FreshStep
variable (hrun : s.ctl.run = true) (hovr : s.ctl.ovr = false)
include hrun hovr

/-- From a fresh step the counter counts the ticks up to the tempo (R121). -/
theorem ticks_within_step (hfresh : s.eng.elapsed = 0) (htempo : s.ctl.tempo.toNat < 65535) (j : Nat)
    (hj : j ≤ s.ctl.tempo.toNat) : (ticks j s).eng.pos = s.eng.pos ∧ (ticks j s).eng.elapsed.toNat = j := by
  induction j with
  | zero => exact ⟨rfl, by rw [ticks, hfresh]; rfl⟩
  | succ j ih =>
    obtain ⟨hpos, helapsed⟩ := ih (by omega)
    have hseq := seqOut_of_within (s := ticks j s) (by rwa [ticks_ctl]) (by rwa [ticks_ctl])
      (by rw [ticks_ctl, helapsed]; omega)
    rw [ticks_succ, tick_pos, tick_elapsed, hseq]
    refine ⟨hpos, ?_⟩
    have hadd : ((ticks j s).eng.elapsed + 1).toNat = ((ticks j s).eng.elapsed.toNat + 1) % 2 ^ 16 :=
      BitVec.toNat_add ..
    rw [hadd, helapsed]
    omega

/-- The tick after the tempo advances (R121). -/
theorem ticks_end_of_step (hfresh : s.eng.elapsed = 0) (htempo : s.ctl.tempo.toNat < 65535) :
    (ticks (s.ctl.tempo.toNat + 1) s).eng.pos = s.eng.pos + 1 ∧
      (ticks (s.ctl.tempo.toNat + 1) s).eng.elapsed = 0 := by
  obtain ⟨hpos, helapsed⟩ := ticks_within_step hrun hovr hfresh htempo _ le_rfl
  have hseq := seqOut_of_past (s := ticks s.ctl.tempo.toNat s) (by rwa [ticks_ctl]) (by rwa [ticks_ctl])
    (by rw [ticks_ctl, helapsed]; omega)
  rw [ticks_succ, tick_pos, tick_elapsed, hseq, hpos]
  exact ⟨rfl, rfl⟩

/-- No counter exceeds the largest tempo, so the position stays (R128). -/
theorem ticks_pos_of_stalled (htempo : s.ctl.tempo = 0xFFFF) (n : Nat) : (ticks n s).eng.pos = s.eng.pos := by
  induction n with
  | zero => rfl
  | succ n ih =>
    have hmax : (0xFFFF : U16).toNat = 65535 := rfl
    have hseq := seqOut_of_within (s := ticks n s) (by rwa [ticks_ctl]) (by rwa [ticks_ctl])
      (by rw [ticks_ctl, htempo, hmax]; omega)
    rw [ticks_succ, tick_pos, hseq]
    exact ih

end FreshStep

/-- Settles O29: the counter within a step, at its end, and under the largest tempo. -/
theorem stepPeriodIsTempoPlusOne : Obligations.StepPeriodIsTempoPlusOne := by
  refine fun s hrun hovr => ⟨fun hfresh htempo => ⟨ticks_within_step hrun hovr hfresh htempo, ?_⟩,
    ticks_pos_of_stalled hrun hovr⟩
  obtain ⟨hpos, helapsed⟩ := ticks_end_of_step hrun hovr hfresh htempo
  exact ⟨by rw [hpos, toNat_pos_succ], helapsed⟩

end Sys2Proof.Machine

/-! PROOFS. The voices of a tick: latch, pitch rate, advance and finish (R129 to R132, R150 to R157). -/

namespace Sys2Proof.Machine

variable {s t : State}

/-! ### The pattern-store index, in the model's and in the spec's words (R61) -/

theorem bankOff_eq_windowFirst : ∀ b : BankId, bankOff b = windowFirst b := by decide

theorem patIdx_eq_windowAt (i : Step32) (b : BankId) : patIdx i b = windowAt i b :=
  Fin.ext (congrArg (i.toNat + ·) (bankOff_eq_windowFirst b))

/-! ### Phase 3 and 4, a voice at a time -/

/-- The state phase 3 reads: position and lookahead are new, requests of tracks are still there. -/
def beforeLatch (s : State) : State := phase2 (stepEdge s) (phase1 s)

theorem playIdx_beforeLatch (s : State) : playIdx (beforeLatch s) = windowAt (tick s).eng.pos s.ctl.bank := by
  rw [tick_pos]
  exact patIdx_eq_windowAt _ _

theorem fires_beforeLatch (s : State) (v : VoiceId) : fires (stepEdge s) (beforeLatch s) v = latches s v := by
  have hflag (k : TrackId) : trkLat (stepEdge s) (beforeLatch s) k =
      (stepEdge s && s.flag k (windowAt (tick s).eng.pos s.ctl.bank)) := by
    rw [trkLat, trackLatch, playIdx_beforeLatch]
    rfl
  simp only [fires, voiceFire, hflag, latches, Bool.and_assoc]
  rfl

theorem tick_prate_eq (s : State) (p : PairId) : (tick s).eng.prate[p] =
    if pitchFires (stepEdge s) (beforeLatch s) p then s.pitch p (windowAt (tick s).eng.pos s.ctl.bank)
    else s.eng.prate[p] := by
  rw [← playIdx_beforeLatch, tick_prate]
  exact Vector.getElem_ofFn ..

theorem pitchFires_iff (s : State) (p : PairId) : pitchFires (stepEdge s) (beforeLatch s) p = true ↔
    ∃ v : VoiceId, (s.cfg.voices[v]).vrsrc = .seq p ∧ latches s v = true := by
  simp only [pitchFires, List.any_eq_true, List.mem_finRange, true_and, Bool.and_eq_true, beq_iff_eq,
    fires_beforeLatch]
  rfl

/-- The rate phase 4 plays with is the source's, a sequence's as phase 3 loaded it (R154). -/
theorem voiceRate_eq_playRate (s : State) (v : VoiceId) :
    voiceRate (phase3 (stepEdge s) (beforeLatch s)) v = playRate s v := by
  have hprate (p : PairId) : (phase3 (stepEdge s) (beforeLatch s)).eng.prate[p] = (tick s).eng.prate[p] := by
    rw [tick_prate]; rfl
  have hsrc : ((phase3 (stepEdge s) (beforeLatch s)).cfg.voices[v]).vrsrc = (s.cfg.voices[v]).vrsrc := rfl
  simp only [voiceRate, playRate, hsrc, hprate]
  cases (s.cfg.voices[v]).vrsrc <;> rfl

/-- One voice through a tick: latched, then advanced (R150). -/
theorem tick_voice (s : State) (v : VoiceId) : (tick s).eng.voices[v] =
    stepVoice s.cfg.fpShift (s.cfg.voices[v]).len (playRate s v) (latchVoice (latches s v) s.eng.voices[v]) := by
  have hlatched : (phase3 (stepEdge s) (beforeLatch s)).eng.voices[v] =
      latchVoice (latches s v) s.eng.voices[v] := by
    rw [← fires_beforeLatch]
    exact Vector.getElem_ofFn ..
  rw [← voiceRate_eq_playRate, ← hlatched, tick_voices]
  exact Vector.getElem_ofFn ..

/-! ### One voice's advance (R151 to R153) -/

/-- Adding a signed rate to an accumulator is integer addition modulo 2^32 (R9, R151). -/
theorem add_signExtend (acc : U32) (rate : S16) :
    acc + rate.signExtend 32 = BitVec.ofInt 32 ((acc.toNat : Int) + rate.toInt) := by
  rw [BitVec.ofInt_add, BitVec.ofInt_natCast, BitVec.ofNat_toNat, BitVec.setWidth_eq, BitVec.signExtend]

theorem shiftRight_eq_ofNat (acc : U32) (n : Nat) : acc >>> n = BitVec.ofNat 32 (acc.toNat / 2 ^ n) := by
  rw [← Nat.shiftRight_eq_div_pow, ← BitVec.toNat_ushiftRight, BitVec.ofNat_toNat, BitVec.setWidth_eq]

theorem toNat_shiftRight (acc : U32) (n : Nat) : (acc >>> n).toNat = acc.toNat / 2 ^ n := by
  rw [BitVec.toNat_ushiftRight, Nat.shiftRight_eq_div_pow]

theorem stepVoice_of_off {fp : Nat} {len : U16} {rate : S16} {vo : Voice} (h : vo.act = false) :
    stepVoice fp len rate vo = vo := by
  simp only [stepVoice, h, Bool.false_eq_true, if_false]

/-- A playing voice goes on from its accumulator, or is finished past the table (R151 to R153). -/
theorem stepVoice_of_on {fp : Nat} {len : U16} {rate : S16} {vo : Voice} {acc : U32} (h : vo.act = true)
    (hacc : BitVec.ofInt 32 ((vo.acc.toNat : Int) + rate.toInt) = acc) : stepVoice fp len rate vo =
      if len.toNat < acc.toNat / 2 ^ fp then { acc := 0, idx := 0, act := false }
      else { acc := acc, idx := acc >>> fp, act := true } := by
  simp only [stepVoice, h, if_true, add_signExtend, hacc, toNat_shiftRight]

/-- The accumulator a voice plays from in the tick that starts in s (R131). -/
def latchedAcc (s : State) (v : VoiceId) : Int := if latches s v then 0 else ((s.eng.voices[v]).acc.toNat : Int)

/-- A voice that fires or plays goes on from its accumulator, or is finished past its table. -/
theorem tick_voice_playing {v : VoiceId} {acc : U32} (h : latches s v = true ∨ (s.eng.voices[v]).act = true)
    (hacc : BitVec.ofInt 32 (latchedAcc s v + (playRate s v).toInt) = acc) : (tick s).eng.voices[v] =
      if (s.cfg.voices[v]).len.toNat < acc.toNat / 2 ^ s.cfg.fpShift then { acc := 0, idx := 0, act := false }
      else { acc := acc, idx := acc >>> s.cfg.fpShift, act := true } := by
  rw [tick_voice, latchVoice]
  cases hl : latches s v
  · have hact : (s.eng.voices[v]).act = true := by simpa [hl] using h
    exact stepVoice_of_on (by simpa using hact) (by simpa [latchedAcc, hl] using hacc)
  · exact stepVoice_of_on (by simp) (by simpa [latchedAcc, hl] using hacc)

/-- Any other voice is not touched (R150). -/
theorem tick_voice_silent {v : VoiceId} (hl : latches s v = false) (hact : (s.eng.voices[v]).act = false) :
    (tick s).eng.voices[v] = s.eng.voices[v] := by
  rw [tick_voice, latchVoice, hl]
  exact stepVoice_of_off (by simpa using hact)

theorem ite_eq_branch {α : Type} {c : Prop} [Decidable c] {a x y : α} (h : a = if c then x else y) :
    if c then a = x else a = y := by
  split_ifs at h ⊢ <;> exact h

/-- Settles O31: a voice that fires or plays, and any other. -/
theorem tickPlaysEachVoice : Obligations.TickPlaysEachVoice := by
  refine fun s v => ⟨tick s, rfl, ?_⟩
  dsimp only
  split
  case isTrue h =>
    exact ite_eq_branch (by rw [tick_voice_playing h rfl, latchedAcc, shiftRight_eq_ofNat])
  case isFalse h =>
    rw [not_or, Bool.not_eq_true, Bool.not_eq_true] at h
    exact tick_voice_silent h.1 h.2

/-- Settles O32: the rate is loaded exactly when a voice of the sequence fires. -/
theorem tickLoadsThePitchRates : Obligations.TickLoadsThePitchRates := by
  refine fun s p => ⟨tick s, rfl, fun hfires => ?_, fun hkeeps => ?_⟩
  · rw [tick_prate_eq, if_pos ((pitchFires_iff s p).mpr hfires)]
  · rw [tick_prate_eq, if_neg]
    rintro hfires
    obtain ⟨v, hsrc, hl⟩ := (pitchFires_iff s p).mp hfires
    rw [hkeeps v hsrc] at hl
    cases hl

/-! ### A voice at one table entry a tick (R157) -/

/-- A rate is a signed 16-bit number, so one table entry a tick is at most 2^14. -/
theorem fpShift_le_of_rate {rate : S16} {fp : Nat} (h : rate.toInt = 2 ^ fp) : fp ≤ 14 := by
  by_contra hgt
  have hpow : (2 : Int) ^ 15 ≤ 2 ^ fp := pow_le_pow_right₀ (by norm_num) (by omega)
  have hrate := BitVec.toInt_lt (x := rate)
  rw [h] at hrate
  norm_num at hrate hpow
  omega

/-- So the accumulator does not wrap before a table of at most 2^16 entries ends. -/
theorem toNat_entries {n fp : Nat} (hfp : fp ≤ 14) (hn : n < 2 ^ 16) :
    (BitVec.ofNat 32 ((n + 1) * 2 ^ fp)).toNat = (n + 1) * 2 ^ fp := by
  have hpow : 2 ^ fp ≤ 2 ^ 14 := Nat.pow_le_pow_right (by decide) hfp
  rw [BitVec.toNat_ofNat]
  exact Nat.mod_eq_of_lt (by nlinarith)

section OneEntryATick
variable {v : VoiceId}

/-- A voice that plays one table entry a tick and has n entries behind it has n+1 behind it after the tick, until its
table ends. -/
theorem tick_voice_one_entry {n : Nat} (hplays : latches s v = true ∨ (s.eng.voices[v]).act = true)
    (hrate : (playRate s v).toInt = 2 ^ s.cfg.fpShift) (hacc : latchedAcc s v = ((n * 2 ^ s.cfg.fpShift : Nat) : Int))
    (hn : n ≤ (s.cfg.voices[v]).len.toNat) :
    (tick s).eng.voices[v] = if n < (s.cfg.voices[v]).len.toNat then
      { acc := BitVec.ofNat 32 ((n + 1) * 2 ^ s.cfg.fpShift), idx := BitVec.ofNat 32 (n + 1), act := true }
    else { acc := 0, idx := 0, act := false } := by
  have hsum : BitVec.ofInt 32 (latchedAcc s v + (playRate s v).toInt) =
      BitVec.ofNat 32 ((n + 1) * 2 ^ s.cfg.fpShift) := by
    rw [hacc, hrate, ← BitVec.ofInt_natCast]
    push_cast
    ring_nf
  have hlen := (s.cfg.voices[v]).len.isLt
  have hidx : (BitVec.ofNat 32 ((n + 1) * 2 ^ s.cfg.fpShift)).toNat / 2 ^ s.cfg.fpShift = n + 1 := by
    rw [toNat_entries (fpShift_le_of_rate hrate) (by omega), Nat.mul_div_cancel _ (by positivity)]
  rw [tick_voice_playing hplays hsum, shiftRight_eq_ofNat, hidx]
  by_cases hlast : n < (s.cfg.voices[v]).len.toNat
  · rw [if_pos hlast, if_neg (by omega)]
  · rw [if_neg hlast, if_pos (by omega)]

variable (hlatch : latches s v = true)
  (hquiet : ∀ j, 0 < j → j ≤ ((s.cfg.voices[v]).len).toNat → latches (ticks j s) v = false)
  (hrate : ∀ j, j ≤ ((s.cfg.voices[v]).len).toNat → (playRate (ticks j s) v).toInt = 2 ^ s.cfg.fpShift)
include hlatch hquiet hrate

/-- n ticks after the latch the voice plays and has n entries behind it, as long as its table lasts. -/
theorem plays_after_latch (n : Nat) (hn : n ≤ ((s.cfg.voices[v]).len).toNat) :
    (latches (ticks n s) v = true ∨ ((ticks n s).eng.voices[v]).act = true) ∧
      latchedAcc (ticks n s) v = ((n * 2 ^ s.cfg.fpShift : Nat) : Int) := by
  induction n with
  | zero => exact ⟨.inl hlatch, by rw [latchedAcc, ticks, if_pos hlatch, Nat.zero_mul]; rfl⟩
  | succ n ih =>
    obtain ⟨hplays, hacc⟩ := ih (by omega)
    have hvoice := tick_voice_one_entry (n := n) hplays (by rw [ticks_cfg]; exact hrate n (by omega))
      (by rwa [ticks_cfg]) (by rw [ticks_cfg]; omega)
    rw [ticks_cfg, if_pos (by omega), ← ticks_succ] at hvoice
    have hlen := (s.cfg.voices[v]).len.isLt
    rw [latchedAcc, if_neg (Bool.eq_false_iff.mp (hquiet (n + 1) (by omega) hn)), hvoice]
    exact ⟨.inr rfl, congrArg _ (toNat_entries (fpShift_le_of_rate (hrate 0 (by omega))) (by omega))⟩

/-- The tick after: one more entry, or the end of the table. -/
theorem voice_after_latch (n : Nat) (hn : n ≤ ((s.cfg.voices[v]).len).toNat) :
    (ticks (n + 1) s).eng.voices[v] = if n < ((s.cfg.voices[v]).len).toNat then
      { acc := BitVec.ofNat 32 ((n + 1) * 2 ^ s.cfg.fpShift), idx := BitVec.ofNat 32 (n + 1), act := true }
    else { acc := 0, idx := 0, act := false } := by
  obtain ⟨hplays, hacc⟩ := plays_after_latch hlatch hquiet hrate n hn
  have hvoice := tick_voice_one_entry (n := n) hplays (by rw [ticks_cfg]; exact hrate n hn) (by rwa [ticks_cfg])
    (by rwa [ticks_cfg])
  rwa [ticks_cfg, ← ticks_succ] at hvoice

end OneEntryATick

/-- Settles O33: one entry a tick, `LEN` entries, then off. -/
theorem voiceUnlatchesAtItsTableLength : Obligations.VoiceUnlatchesAtItsTableLength := by
  refine fun s v _ hlatch hquiet hrate => ⟨fun j hj => ?_, ?_⟩
  · have hlen := (s.cfg.voices[v]).len.isLt
    rw [voice_after_latch hlatch hquiet hrate j hj.le, if_pos hj]
    exact ⟨rfl, by rw [BitVec.toNat_ofNat]; omega⟩
  · rw [voice_after_latch hlatch hquiet hrate _ le_rfl, if_neg (lt_irrefl _)]

end Sys2Proof.Machine

/-! PROOFS. Click, noise and the sample of a tick (R155, R156, R170 to R187). -/

namespace Sys2Proof.Machine

variable {s : State}

/-! ### The click and the noise (R171 to R174) -/

/-- The click retriggers in the tick that starts in s (R171). -/
def clickHits (s : State) : Bool := clickHit (stepEdge s) s.ctl.click (tick s).eng.pos

theorem clickHits_eq (s : State) :
    clickHits s = (stepEdge s && s.ctl.click && decide ((tick s).eng.pos.toNat % 4 = 0)) := rfl

/-- The envelope the tick uses, as the register holds it (R172). -/
def usedEnv (s : State) : U16 := if clickHits s then envMax s.cfg else s.eng.clickEnv

/-- The state whose voices and oscillators the mixer reads. -/
def beforeOutput (s : State) : State := oscillate (retrigger (stepEdge s) (afterVoices s))

theorem clickHit_afterVoices (s : State) :
    clickHit (stepEdge s) (afterVoices s).ctl.click (afterVoices s).eng.pos = clickHits s := by
  rw [clickHits, tick_pos]; rfl

theorem retriggered_eng (s : State) : (retrigger (stepEdge s) (afterVoices s)).eng =
    if clickHits s then
      { (afterVoices s).eng with clickRate := clickTone s.cfg (tick s).eng.pos, clickEnv := envMax s.cfg }
    else (afterVoices s).eng := by
  rw [retrigger_eng, clickHit_afterVoices, tick_pos]; rfl

theorem retriggered_env (s : State) : (retrigger (stepEdge s) (afterVoices s)).eng.clickEnv = usedEnv s := by
  rw [retriggered_eng, usedEnv]
  split <;> rfl

theorem retriggered_rate (s : State) : (retrigger (stepEdge s) (afterVoices s)).eng.clickRate =
    if clickHits s then clickTone s.cfg (tick s).eng.pos else s.eng.clickRate := by
  rw [retriggered_eng]
  split <;> rfl

/-- A retrigger leaves both accumulators and every voice. -/
theorem retriggered_rest (s : State) :
    (retrigger (stepEdge s) (afterVoices s)).eng.clickAcc = s.eng.clickAcc ∧
      (retrigger (stepEdge s) (afterVoices s)).eng.noiseAcc = s.eng.noiseAcc ∧
      (retrigger (stepEdge s) (afterVoices s)).eng.voices = (afterVoices s).eng.voices := by
  rw [retriggered_eng]
  split <;> exact ⟨rfl, rfl, rfl⟩

theorem tick_clickRate (s : State) : (tick s).eng.clickRate =
    if clickHits s then clickTone s.cfg (tick s).eng.pos else s.eng.clickRate := retriggered_rate s

theorem tick_clickAcc (s : State) :
    (tick s).eng.clickAcc = s.eng.clickAcc + ((tick s).eng.clickRate).signExtend 32 :=
  congrArg (· + ((tick s).eng.clickRate).signExtend 32) (retriggered_rest s).1

theorem tick_noiseAcc (s : State) : (tick s).eng.noiseAcc = s.eng.noiseAcc + (s.cfg.noiseRate).signExtend 32 := by
  have hcfg : (retrigger (stepEdge s) (afterVoices s)).cfg = s.cfg := (retrigger_rest _ _).1
  rw [← (retriggered_rest s).2.1, ← hcfg]
  rfl

theorem tick_clickEnv (s : State) : (tick s).eng.clickEnv = if usedEnv s = 0 then 0 else usedEnv s - 1 := by
  rw [← retriggered_env]; rfl

theorem toNat_tick_clickEnv (s : State) : (tick s).eng.clickEnv.toNat = (usedEnv s).toNat - 1 := by
  rw [tick_clickEnv]
  split
  case isTrue h => rw [h]; rfl
  case isFalse h => bv_omega

/-- The tones by the position as a number (R171). -/
theorem clickTone_eq (c : Cfg) (pos : Step32) : clickTone c pos =
    if pos.toNat = 0 then c.toneBar else if pos.toNat % 8 = 0 then c.tone8 else c.tone4 := by
  have hzero : pos = 0 ↔ pos.toNat = 0 := BitVec.toNat_inj.symm
  simp only [clickTone, hzero]

/-- Settles O34: what the retrigger writes, the countdown and the two accumulators. -/
theorem tickRunsTheClickAndTheNoise : Obligations.TickRunsTheClickAndTheNoise := by
  refine fun s => ⟨tick s, rfl, ?_⟩
  dsimp only
  rw [← clickHits_eq, ← clickTone_eq, ← add_signExtend, ← add_signExtend]
  exact ⟨tick_clickRate s, toNat_tick_clickEnv s, tick_clickAcc s, tick_noiseAcc s⟩

/-! ### What the mixer reads (R155, R156, R175) -/

/-- The sample voice v adds in the tick that starts in s (R156). -/
def tickSample (s : State) (v : VoiceId) : Int := voiceSample s.cfg.voices[v] s.ctl.dir (tick s).eng.voices[v]

/-- The voices' samples together (R175). -/
def tickSum (s : State) : Int :=
  tickSample s 0 + tickSample s 1 + tickSample s 2 + tickSample s 3 + tickSample s 4 + tickSample s 5

/-- Some voice is latched after the tick (R175). -/
def tickAny (s : State) : Bool := (tick s).eng.voices.toList.any Voice.act

theorem tickAny_iff (s : State) : tickAny s = true ↔ ∃ v : VoiceId, ((tick s).eng.voices[v]).act = true := by
  rw [tickAny, List.any_eq_true]
  constructor
  · rintro ⟨vo, hmem, hact⟩
    obtain ⟨i, hi, rfl⟩ := List.getElem_of_mem hmem
    exact ⟨⟨i, by simpa using hi⟩, by simpa using hact⟩
  · rintro ⟨v, hact⟩
    exact ⟨_, by simp, hact⟩

theorem tickAny_of_silent (h : ∀ v : VoiceId, ((tick s).eng.voices[v]).act = false) : tickAny s = false := by
  rw [Bool.eq_false_iff, Ne, tickAny_iff]
  rintro ⟨v, hv⟩
  rw [h v] at hv
  cases hv

theorem beforeOutput_voices (s : State) : (beforeOutput s).eng.voices = (tick s).eng.voices := by
  rw [tick_voices]
  exact (retriggered_rest s).2.2

theorem beforeOutput_rest (s : State) : (beforeOutput s).cfg = s.cfg ∧ (beforeOutput s).ctl = s.ctl ∧
    (beforeOutput s).eng.clickEnv = usedEnv s := by
  obtain ⟨hcfg, -, hctl, -⟩ := retrigger_rest (afterVoices s) (stepEdge s)
  exact ⟨hcfg, hctl, retriggered_env s⟩

theorem sampleOf_beforeOutput (s : State) (v : VoiceId) : sampleOf (beforeOutput s) v = tickSample s v := by
  obtain ⟨hcfg, hctl, -⟩ := beforeOutput_rest s
  rw [sampleOf, hcfg, hctl, beforeOutput_voices, tickSample]

theorem voiceSum_beforeOutput (s : State) : voiceSum (beforeOutput s) = tickSum s := by
  simp only [voiceSum, sampleOf_beforeOutput, tickSum]

/-- The mixed value, by mode, from what the tick leaves and the envelope it used (R177 to R181). -/
theorem mixed_beforeOutput (s : State) : mixed (beforeOutput s) =
    if s.ctl.mix then
      accentMix (voiceTerm s.cfg.mixShift (tickAny s) (tickSum s))
        (noiseBlend s.cfg (clickRead s.cfg (tick s).eng.clickAcc) (clickRead s.cfg (tick s).eng.noiseAcc)
          (usedEnv s).toNat)
    else plainMix s.cfg.mixShift (tickSum s)
      (clickSample s.cfg.clickEnvShift (clickRead s.cfg (tick s).eng.clickAcc) (usedEnv s).toNat) := by
  obtain ⟨hcfg, hctl, henv⟩ := beforeOutput_rest s
  have hany : anyAct (beforeOutput s) = tickAny s := by rw [anyAct, beforeOutput_voices, tickAny]
  have hclick : (beforeOutput s).eng.clickAcc = (tick s).eng.clickAcc := rfl
  have hnoise : (beforeOutput s).eng.noiseAcc = (tick s).eng.noiseAcc := rfl
  simp only [mixed, hcfg, hctl, henv, hany, hclick, hnoise, voiceSum_beforeOutput]

theorem tick_out (s : State) : (tick s).eng.out = truncate8 (foldBack (mixed (beforeOutput s))) := rfl

/-- A sample is the reflected value modulo 256 (R187). -/
theorem toNat_truncate8 (post : Int) : ((truncate8 post).toNat : Int) = post % 256 := by
  rw [truncate8, BitVec.toNat_ofInt]
  exact Int.toNat_of_nonneg (Int.emod_nonneg _ (by decide))

/-- The clip as the spec writes it, with `SMAX = 255` (R184). -/
theorem foldBack_eq (pre : Int) : foldBack pre = if 255 < pre then 510 - pre else if pre < 0 then -pre else pre := rfl

/-- One reflection brings every value in -255..510 into the sample's range (R184). -/
theorem foldBack_emod {pre : Int} (hlo : -255 ≤ pre) (hhi : pre ≤ 510) : foldBack pre % 256 = foldBack pre := by
  rw [foldBack_eq]
  split_ifs <;> omega

/-! ### Table reads (R63, R155, R173) -/

theorem wf_table {c : Cfg} (h : c.wf = true) (v : VoiceId) :
    (c.voices[v]).tab.length = (c.voices[v]).len.toNat + 1 := by
  simp only [Cfg.wf, Bool.and_eq_true] at h
  obtain ⟨-, htab, -⟩ := h
  have hv := List.all_eq_true.mp htab c.voices[v] (by simp)
  simp only [VoiceCfg.tableOk, Bool.and_eq_true, beq_iff_eq] at hv
  exact hv.1

theorem wf_clickTab {c : Cfg} (h : c.wf = true) : 0 < c.clickTab.length := by
  simp only [Cfg.wf, Bool.and_eq_true] at h
  obtain ⟨-, -, hclick, -⟩ := h
  exact List.length_pos_iff.mpr (by simpa [Cfg.clickTabOk] using hclick)

theorem wf_clickEnvShift {c : Cfg} (h : c.wf = true) : 1 ≤ c.clickEnvShift ∧ c.clickEnvShift ≤ 15 := by
  simp only [Cfg.wf, Bool.and_eq_true] at h
  obtain ⟨-, -, -, hshift, -⟩ := h
  simpa [Cfg.clickEnvShiftOk] using hshift

/-- A voice that is on after its advance is within its table (R153). -/
theorem stepVoice_idx_le {fp : Nat} {len : U16} {rate : S16} {vo : Voice} (h : (stepVoice fp len rate vo).act = true) :
    (stepVoice fp len rate vo).idx.toNat ≤ len.toNat := by
  cases hact : vo.act
  · rw [stepVoice_of_off hact, hact] at h
    cases h
  · rw [stepVoice_of_on hact rfl] at h ⊢
    split at h
    · cases h
    · next hlt =>
      rw [if_neg hlt, toNat_shiftRight]
      exact not_lt.mp hlt

theorem tick_idx_le {v : VoiceId} (h : ((tick s).eng.voices[v]).act = true) :
    ((tick s).eng.voices[v]).idx.toNat ≤ (s.cfg.voices[v]).len.toNat := by
  rw [tick_voice] at h ⊢
  exact stepVoice_idx_le h

theorem getElem?_eq_some_getD {l : List U8} {i : Nat} (h : i < l.length) : l[i]? = some (l.getD i 0) := by
  rw [List.getElem?_eq_getElem h, List.getD_eq_getElem _ _ h]

/-- What a voice adds: its table's byte, centred, or 0 when it is off (R155, R156). -/
theorem tickSample_reads (hwf : s.cfg.wf = true) (v : VoiceId) :
    let vc := s.cfg.voices[v]
    let vo := (tick s).eng.voices[v]
    if vo.act then
      ∃ byte, vc.tab[if s.ctl.dir then vc.len.toNat - vo.idx.toNat else vo.idx.toNat]? = some byte ∧
        tickSample s v = (byte.toNat : Int) - 128
    else tickSample s v = 0 := by
  dsimp only
  split
  case isTrue hact =>
    refine ⟨_, getElem?_eq_some_getD ?_, if_pos hact⟩
    have hle := tick_idx_le hact
    rw [wf_table hwf]
    split <;> omega
  case isFalse hact => exact if_neg hact

theorem clickRead_reads {c : Cfg} (hwf : c.wf = true) (acc : U32) :
    c.clickTab[(acc.toNat / 2 ^ c.fpShift) % c.clickTab.length]? = some (clickRead c acc) := by
  rw [clickRead, toNat_shiftRight]
  exact getElem?_eq_some_getD (Nat.mod_lt _ (wf_clickTab hwf))

theorem toNat_usedEnv (hwf : s.cfg.wf = true) : (usedEnv s).toNat = envelopeUsed s := by
  have hpow : 2 ^ s.cfg.clickEnvShift ≤ 2 ^ 15 := Nat.pow_le_pow_right (by decide) (wf_clickEnvShift hwf).2
  rw [usedEnv, envelopeUsed, ← clickHits_eq]
  split
  · rw [envMax, BitVec.toNat_ofNat, Nat.mod_eq_of_lt (by omega)]
  · rfl

/-! ### The two modes -/

/-- Settles O35: the plain mix of the bytes read, clipped and truncated. -/
theorem plainModeSample : Obligations.PlainModeSample := by
  intro s hwf hmix
  refine ⟨tick s, rfl, tickSample s, clickRead s.cfg (tick s).eng.clickAcc, tickSample_reads hwf,
    clickRead_reads hwf _, ?_⟩
  have hout : (tick s).eng.out = truncate8 (foldBack (plainMix s.cfg.mixShift (tickSum s)
      (clickSample s.cfg.clickEnvShift (clickRead s.cfg (tick s).eng.clickAcc) (envelopeUsed s)))) := by
    rw [tick_out, mixed_beforeOutput, hmix, if_neg Bool.false_ne_true, toNat_usedEnv hwf]
  rw [hout, toNat_truncate8, foldBack_eq]
  exact ⟨rfl, foldBack_emod⟩

/-- The reference blend keeps within eight bits up to the envelope's maximum (R179). -/
theorem toNat_noiseBlend_reference {c : Cfg} {cRaw nRaw : U8} {env : Nat} (h : c.noiseBlend = .reference)
    (henv : env ≤ 2 ^ c.clickEnvShift) :
    (noiseBlend c cRaw nRaw env).toNat = ((cRaw &&& nRaw).toNat * env) / 2 ^ c.clickEnvShift := by
  have hraw := (cRaw &&& nRaw).isLt
  have hle : ((cRaw &&& nRaw).toNat * env) / 2 ^ c.clickEnvShift ≤ (cRaw &&& nRaw).toNat :=
    Nat.div_le_of_le_mul (by rw [Nat.mul_comm]; exact Nat.mul_le_mul_right _ henv)
  simp only [noiseBlend, h, Nat.shiftRight_eq_div_pow, BitVec.toNat_ofNat]
  exact Nat.mod_eq_of_lt (by omega)

theorem noiseBlend_zero (c : Cfg) (cRaw nRaw : U8) : noiseBlend c cRaw nRaw 0 = 0 := by
  unfold noiseBlend
  cases c.noiseBlend
  · simp
  · rfl

theorem noiseBlend_other {c : Cfg} {n env : Nat} (cRaw nRaw : U8) (h : c.noiseBlend = .other n) (henv : env ≠ 0) :
    noiseBlend c cRaw nRaw env = Config.otherBlend n cRaw nRaw env := by
  simp only [noiseBlend, h, if_neg henv]

/-- Settles O36: the voice term by whether a voice is latched, XORed with the blend, clipped and truncated. -/
theorem accentModeSample : Obligations.AccentModeSample := by
  intro s hwf hmix
  refine ⟨tick s, rfl, tickSample s, clickRead s.cfg (tick s).eng.clickAcc, clickRead s.cfg (tick s).eng.noiseAcc,
    noiseBlend s.cfg (clickRead s.cfg (tick s).eng.clickAcc) (clickRead s.cfg (tick s).eng.noiseAcc) (envelopeUsed s),
    voiceTerm s.cfg.mixShift (tickAny s) (tickSum s), tickSample_reads hwf, clickRead_reads hwf _,
    clickRead_reads hwf _, toNat_noiseBlend_reference, fun n => noiseBlend_other _ _, fun h => ?zero,
    fun h => ?silent, fun h => ?latched, ?out⟩
  case zero => rw [h, noiseBlend_zero]
  case silent => rw [tickAny_of_silent h]; rfl
  case latched => rw [(tickAny_iff s).mpr h]; rfl
  case out =>
    dsimp only
    rw [tick_out, mixed_beforeOutput, hmix, if_pos rfl, toNat_usedEnv hwf, toNat_truncate8, foldBack_eq]
    rfl

/-- With no voice latched the voices add nothing (R156). -/
theorem tickSum_of_silent (h : ∀ v : VoiceId, ((tick s).eng.voices[v]).act = false) : tickSum s = 0 := by
  have hzero (v : VoiceId) : tickSample s v = 0 := if_neg (Bool.eq_false_iff.mp (h v))
  simp only [tickSum, hzero, add_zero]

/-- Settles O37: in both modes the mixed value is the mid level itself. -/
theorem silenceIsTheMidLevel : Obligations.SilenceIsTheMidLevel := by
  intro s henv hhit hsilent
  have hused : (usedEnv s).toNat = 0 := by
    have hno : clickHits s = false := hhit
    rw [usedEnv, hno, henv]
    rfl
  have hmixed : mixed (beforeOutput s) = 128 := by
    rw [mixed_beforeOutput, hused, tickAny_of_silent hsilent, tickSum_of_silent hsilent, noiseBlend_zero]
    split
    · show accentMix 128 0 = 128
      decide
    · simp [plainMix, clickSample, asr, mid]
  have hout : (tick s).eng.out = 128 := by
    rw [tick_out, hmixed]
    rfl
  exact ⟨tick s, rfl, hout, by rw [tick_samples, hout]⟩

end Sys2Proof.Machine

/-! PROOFS. What the operations issue, and that from a good state every move completes (R61, R76, R232, R310). -/

namespace Sys2Proof.Machine

variable {s t : State}

/-! ### The persisted layout under a well-formed configuration (R6, R232) -/

theorem wf_layout {c : Cfg} (h : c.wf = true) : 6 ≤ c.hdrSize ∧ 80 ≤ c.slotSize := by
  simp only [Cfg.wf, Bool.and_eq_true] at h
  obtain ⟨-, -, -, -, -, -, -, -, hhdr, hslot, -⟩ := h
  exact ⟨by simpa [Cfg.hdrSizeOk] using hhdr, by simpa [Cfg.slotSizeOk] using hslot⟩

/-- The six bytes of the header that rules name exist. -/
theorem header_lt_nvSize {c : Cfg} (h : c.wf = true) {a : Nat} (ha : a < 6) : a < nvSize c := by
  obtain ⟨hhdr, -⟩ := wf_layout h
  unfold nvSize
  omega

/-- The 80 bytes of a record lie behind the header and within the region. -/
theorem record_bounds {c : Cfg} (h : c.wf = true) (n : Fin 4) {j : Nat} (hj : j < 80) :
    c.hdrSize ≤ slotBase c n + j ∧ slotBase c n + j < nvSize c := by
  obtain ⟨-, hslot⟩ := wf_layout h
  have hn : (n.val + 1) * c.slotSize ≤ 4 * c.slotSize := Nat.mul_le_mul_right _ n.isLt
  rw [Nat.add_mul, Nat.one_mul] at hn
  unfold slotBase nvSize
  omega

/-! ### The micro-operations an operation issues -/

/-- A micro-operation an operation itself issues: none of a restore or of a factory reset, no write of a settings byte
already read, and any address it names is in a record. -/
def IssuedOp (c : Cfg) : MicroOp → Prop
  | .packFlags _ _ a | .packPitch _ _ a | .unpackFlags _ _ a | .unpackPitch _ _ a => c.hdrSize ≤ a ∧ a < nvSize c
  | .writeSettings _ | .bootMagic1 _ | .nvFill _ _ | .restoreSlot | .restoreSettings | .restoreBank
  | .restoreChan => False
  | _ => True

theorem mem_flagOps {op : PatIx → PatIx → Nat → MicroOp} {b : BankId} {addr : Nat} {u : MicroOp} :
    u ∈ flagOps op b addr ↔ ∃ j < 16, op (patIdx (evenStep j) b) (patIdx (oddStep j) b) (addr + j) = u := by
  simp [flagOps]

theorem mem_pitchOps {op : PairId → PatIx → Nat → MicroOp} {p : PairId} {b : BankId} {addr : Nat} {u : MicroOp} :
    u ∈ pitchOps op p b addr ↔ ∃ i < 32, op p (patIdx (BitVec.ofNat 5 i) b) (addr + i) = u := by
  simp [pitchOps]

theorem trigOps_issued (s : State) (k : TrackId) : ∀ u ∈ trigOps s k, IssuedOp s.cfg u := by
  unfold trigOps
  split
  · split <;> simp [IssuedOp]
  · simp [IssuedOp]

theorem eraseOps_issued (c : Cfg) (b : BankId) : ∀ u ∈ eraseOps b, IssuedOp c u := by
  intro u hu
  simp only [eraseOps, List.mem_append, List.mem_flatMap, List.mem_map, List.mem_singleton] at hu
  obtain ⟨i, -, k, -, rfl⟩ | rfl := hu <;> trivial

theorem saveOps_issued {c : Cfg} (h : c.wf = true) (b : BankId) (n : Fin 4) :
    ∀ u ∈ saveOps b n (slotBase c n), IssuedOp c u := by
  intro u hu
  simp only [saveOps, List.mem_append, mem_flagOps, mem_pitchOps, List.mem_cons, List.not_mem_nil, or_false] at hu
  obtain ((⟨j, hj, rfl⟩ | ⟨i, hi, rfl⟩) | ⟨i, hi, rfl⟩) | rfl | rfl | rfl | rfl := hu
  · exact record_bounds h n (by omega)
  · rw [Nat.add_assoc]; exact record_bounds h n (by omega)
  · rw [Nat.add_assoc]; exact record_bounds h n (by omega)
  all_goals trivial

theorem loadOps_issued {c : Cfg} (h : c.wf = true) (b : BankId) (n : Fin 4) :
    ∀ u ∈ loadOps b (slotBase c n), IssuedOp c u := by
  intro u hu
  simp only [loadOps, clearOps, List.mem_append, List.mem_flatMap, mem_flagOps, mem_pitchOps, List.mem_map,
    List.mem_cons, List.not_mem_nil, or_false] at hu
  obtain ((⟨i, -, ⟨k, -, rfl⟩ | rfl | rfl⟩ | ⟨j, hj, rfl⟩) | ⟨i, hi, rfl⟩) | ⟨i, hi, rfl⟩ := hu
  · trivial
  · trivial
  · trivial
  · exact record_bounds h n (by omega)
  · rw [Nat.add_assoc]; exact record_bounds h n (by omega)
  · rw [Nat.add_assoc]; exact record_bounds h n (by omega)

theorem commandOps_issued (h : s.cfg.wf = true) (i : Instr) : ∀ u ∈ commandOps s i, IssuedOp s.cfg u := by
  cases i
  case trig a =>
    simp only [commandOps]
    cases fourArg a
    · simp
    · exact trigOps_issued s _
  case erase => exact eraseOps_issued s.cfg _
  case save a =>
    simp only [commandOps]
    cases fourArg a
    · simp
    · exact saveOps_issued h _ _
  case load a =>
    simp only [commandOps]
    cases fourArg a
    · simp
    · exact loadOps_issued h _ _
  case boot => simp [commandOps, IssuedOp]
  case mnote ch id =>
    simp only [commandOps]
    split
    · split
      · exact trigOps_issued s _
      · simp
    · simp
  all_goals simp [commandOps]

theorem IssuedOp.namedAddr_lt {c : Cfg} {u : MicroOp} (h : IssuedOp c u) {a : Nat} (ha : u.namedAddr = some a) :
    a < nvSize c := by
  cases u <;> simp only [MicroOp.namedAddr, Option.some.injEq, reduceCtorEq] at ha
  case nvFill => exact h.elim
  all_goals exact ha ▸ h.2

/-! ### Completion (R310) -/

/-- A micro-operation completes when the address it names exists and the captured lookahead is a step. -/
theorem runMicro_completes (hwf : s.cfg.wf = true) (hla : s.ctl.laHold.toNat < 32) {u : MicroOp}
    (haddr : ∀ a, u.namedAddr = some a → a < nvSize s.cfg) : ∃ t, runMicro u s = .next t := by
  have header {a : Nat} (ha : a < 6) : a < nvSize s.cfg := header_lt_nvSize hwf ha
  cases u <;> simp only [runMicro]
  case request | capture | clearFlag | clearPitch | eraseDone => exact ⟨_, rfl⟩
  case recordFlag | recordRate => exact ⟨_, atRecordIdx_of_lt _ _ hla⟩
  case packFlags | packPitch | nvFill => exact ⟨_, nvWrite_of_lt _ (haddr _ rfl)⟩
  case unpackFlags | unpackPitch => exact ⟨_, withNvByte_of_lt _ (haddr _ rfl)⟩
  case writeSettings | writeBank | writeChan | writeSlot => exact ⟨_, nvWrite_of_lt _ (header (by decide))⟩
  case readSettings | bootMagic0 | bootMagic1 | restoreSlot | restoreSettings | restoreBank | restoreChan =>
    exact ⟨_, withNvByte_of_lt _ (header (by decide))⟩

theorem issue_completes (hwf : s.cfg.wf = true) (hla : s.ctl.laHold.toNat < 32) {us : List MicroOp}
    (hus : ∀ u ∈ us, IssuedOp s.cfg u) : ∃ t, issue us s = .next t := by
  cases us with
  | nil => exact ⟨s, rfl⟩
  | cons u rest =>
    exact runMicro_completes (s := s.setProg (rest ++ s.prog)) hwf hla fun a =>
      (hus u List.mem_cons_self).namedAddr_lt

/-- Every operation answers a next state when the captured lookahead is a step (R310). -/
theorem exec_completes (hwf : s.cfg.wf = true) (hla : s.ctl.laHold.toNat < 32) (i : Instr) :
    ∃ t, exec i s = .next t := by
  have hissue := issue_completes hwf hla (commandOps_issued hwf i)
  cases i
  case trig | erase | save | load | boot =>
    rw [exec_eq_issue rfl]
    exact hissue
  case mnote => exact exec_mnote_completes _ _ s
  case mcc => exact exec_mcc_completes _ _ _ s
  case run => exact ⟨_, exec_run_eq _ s⟩
  case record => exact ⟨_, exec_record_eq _ s⟩
  case bank => exact ⟨_, exec_bank_eq s _⟩
  case rate => exact ⟨_, exec_rate_eq s _ _⟩
  case live => exact ⟨_, exec_live_eq s _ _⟩
  case ovr => exact ⟨_, exec_ovr_eq s _⟩
  case prd =>
    simp only [exec, execPrd]
    split <;> exact ⟨_, rfl⟩
  case mclk =>
    simp only [exec, execMclk]
    split_ifs <;> exact ⟨_, rfl⟩
  case tick | tempo | dir | mix | click | rdla | chan | div | mstart | mstop | mcont => exact ⟨_, rfl⟩

/-! ### The reset state (R35) -/

/-- Settles O18: the reset values one by one; the arrays are constant. -/
theorem resetLeavesTheStatedValues : Obligations.ResetLeavesTheStatedValues := by
  intro c nv
  dsimp only [State.resetWith, Engine.reset, Requests.none, Control.reset, State.flag, State.pitch, Pattern.zero]
  simp

theorem tableWord_encode (i : Instr) : tableWord 32 (encode i).toNat = encode i := by
  rw [tableWord, Nat.mod_eq_of_lt (encode i).isLt, BitVec.ofNat_toNat, BitVec.setWidth_eq]

theorem isTickWord_encode (i : Instr) : isTickWord (encode i) = (i == .tick) := by
  rw [isTickWord, decodeInvertsEncode]

/-- The word of `TICK` placed after reset is a strobe, any other a word on the port (log 6, log 26). -/
theorem step_withFetchWord_reset (i : Instr) :
    step (State.reset.withFetchWord 32 (encode i).toNat) = exec i State.reset := by
  have hwf : State.reset.cfg.wf = true := by decide
  rw [State.withFetchWord, tableWord_encode]
  by_cases hi : i = .tick
  · subst hi
    exact step_of_tick (s := placeWord State.reset (encode .tick)) (r := []) hwf rfl rfl
  · have hword : isTickWord (encode i) = false := by rw [isTickWord_encode, beq_eq_false_iff_ne]; exact hi
    have hplaced : placeWord State.reset (encode i) = State.reset.setTrace [encode i] := by
      simp only [placeWord, hword]; rfl
    rw [hplaced, step_of_empty (s := State.reset.setTrace [encode i]) hwf rfl rfl]
    exact controlMove_of_decode rfl rfl (decodeInvertsEncode i) hi

/-- Settles O19: the placed word's step is the operation on the reset state, which completes. -/
theorem everyOperationRunsFirstAfterReset : Obligations.EveryOperationRunsFirstAfterReset := by
  intro i
  obtain ⟨t, ht⟩ := exec_completes (s := State.reset) (by decide) (by decide) i
  exact ⟨t, (step_withFetchWord_reset i).trans ht, ht⟩

end Sys2Proof.Machine

/-! PROOFS. The invariant: reset meets it, every step keeps it, and from it no step faults (R21, R23, R24, R63, R76,
R218, R264, R310). -/

namespace Sys2Proof.Machine

variable {s t : State}

/-! ### The two halves of the invariant, by owner -/

/-- What the invariant says of the tick engine. -/
structure EngineOk (c : Cfg) (e : Engine) : Prop where
  voices : ∀ v : VoiceId, voiceOk c v e.voices[v]
  la : e.la.toNat < 32
  clickEnv : e.clickEnv.toNat ≤ 2 ^ c.clickEnvShift
  pulse : e.pulseCnt.toNat < c.pulseTicks.toNat

/-- What the invariant says of the control port. -/
structure ControlOk (s : State) : Prop where
  laHold : s.ctl.laHold.toNat < 32
  nvCanonical : Memory.wf s.nv = true
  nvBounded : ∀ c ∈ s.nv, c.1 < nvSize s.cfg
  gateOpen : s.inhibit = false
  progBounded : ∀ u ∈ s.prog, ∀ a, u.namedAddr = some a → a < nvSize s.cfg
  progClosed : restoreClosed s.prog = true
  forced : s.ctl.recArmed = true → s.ctl.run = true ∨ MicroOp.restoreChan ∈ s.prog

theorem inv_iff : Inv s ↔ s.cfg.wf = true ∧ EngineOk s.cfg s.eng ∧ ControlOk s :=
  ⟨fun ⟨hwf, hv, hla, hhold, henv, hpulse, hcan, hbnd, hgate, hprog, hclosed, hforced⟩ =>
    ⟨hwf, ⟨hv, hla, henv, hpulse⟩, ⟨hhold, hcan, hbnd, hgate, hprog, hclosed, hforced⟩⟩,
    fun ⟨hwf, ⟨hv, hla, henv, hpulse⟩, ⟨hhold, hcan, hbnd, hgate, hprog, hclosed, hforced⟩⟩ =>
    ⟨hwf, hv, hla, hhold, henv, hpulse, hcan, hbnd, hgate, hprog, hclosed, hforced⟩⟩

theorem ControlOk.congr (h : ControlOk s) (hcfg : t.cfg = s.cfg) (hctl : t.ctl = s.ctl) (hnv : t.nv = s.nv)
    (hprog : t.prog = s.prog) (hgate : t.inhibit = s.inhibit) : ControlOk t where
  laHold := hctl ▸ h.laHold
  nvCanonical := hnv ▸ h.nvCanonical
  nvBounded := by rw [hnv, hcfg]; exact h.nvBounded
  gateOpen := hgate.trans h.gateOpen
  progBounded := by rw [hprog, hcfg]; exact h.progBounded
  progClosed := hprog ▸ h.progClosed
  forced := by rw [hctl, hprog]; exact h.forced

/-! ### A tick keeps the engine's half -/

theorem latchVoice_ok {c : Cfg} {v : VoiceId} {fire : Bool} {vo : Voice} (h : voiceOk c v vo) :
    (latchVoice fire vo).act = false → latchVoice fire vo = { acc := 0, idx := 0, act := false } := by
  unfold latchVoice
  split
  · intro hact; cases hact
  · intro hact
    obtain ⟨acc, idx, act⟩ := vo
    dsimp only at hact
    subst hact
    obtain ⟨hacc, hidx⟩ := h
    dsimp only at hacc hidx
    rw [hacc, hidx]

/-- A voice that is off before its advance stays off at 0; one that is on ends on within its table, or off at 0. -/
theorem stepVoice_ok {c : Cfg} {v : VoiceId} {rate : S16} {vo : Voice}
    (h : vo.act = false → vo = { acc := 0, idx := 0, act := false }) :
    voiceOk c v (stepVoice c.fpShift (c.voices[v]).len rate vo) := by
  cases hact : vo.act
  · rw [stepVoice_of_off hact, h hact]
    exact ⟨rfl, rfl⟩
  · rw [stepVoice_of_on hact rfl]
    split
    case isTrue => exact ⟨rfl, rfl⟩
    case isFalse hlt => exact ⟨rfl, (toNat_shiftRight _ _).trans_le (not_lt.mp hlt)⟩

theorem toNat_usedEnv_le (h : s.eng.clickEnv.toNat ≤ 2 ^ s.cfg.clickEnvShift) :
    (usedEnv s).toNat ≤ 2 ^ s.cfg.clickEnvShift := by
  rw [usedEnv]
  split
  · rw [envMax, BitVec.toNat_ofNat]
    exact Nat.mod_le _ _
  · exact h

theorem toNat_pulseLoaded_le (h : s.eng.pulseCnt.toNat ≤ s.cfg.pulseTicks.toNat) :
    (pulseLoaded s).toNat ≤ s.cfg.pulseTicks.toNat := by
  rw [pulseLoaded, pulseLoad_eq]
  split_ifs
  · exact Nat.zero_le _
  · exact le_rfl
  · exact le_rfl
  · exact h

theorem tick_engineOk (h : EngineOk s.cfg s.eng) : EngineOk s.cfg (tick s).eng where
  voices v := by
    rw [tick_voice]
    exact stepVoice_ok (latchVoice_ok (h.voices v))
  la := toNat_tick_la_lt s
  clickEnv := by
    rw [toNat_tick_clickEnv]
    exact (Nat.sub_le _ _).trans (toNat_usedEnv_le h.clickEnv)
  pulse := by
    have hle := toNat_pulseLoaded_le h.pulse.le
    have hpos := h.pulse
    rw [toNat_tick_pulseCnt]
    omega

theorem tick_controlOk (h : ControlOk s) : ControlOk (tick s) :=
  h.congr (tick_cfg s) (tick_ctl s) (tick_nv s) (tick_prog s) (tick_inhibit s)

theorem tick_inv (h : Inv s) : Inv (tick s) := by
  obtain ⟨hwf, heng, hctl⟩ := inv_iff.mp h
  exact inv_iff.mpr ⟨by rwa [tick_cfg], by rw [tick_cfg]; exact tick_engineOk heng, tick_controlOk hctl⟩

/-! ### What waits to run (R76, R247) -/

theorem restoreClosed_of_not_mem {us : List MicroOp} (h : MicroOp.restoreSettings ∉ us) : restoreClosed us = true := by
  induction us with
  | nil => rfl
  | cons u us ih =>
    obtain ⟨hu, hus⟩ := not_or.mp (List.mem_cons.not.mp h)
    cases u
    case restoreSettings => exact absurd rfl hu
    all_goals exact ih hus

theorem restoreClosed_append {us vs : List MicroOp} (hus : restoreClosed us = true) (hvs : restoreClosed vs = true) :
    restoreClosed (us ++ vs) = true := by
  induction us with
  | nil => exact hvs
  | cons u us ih =>
    cases u
    case restoreSettings =>
      simp only [restoreClosed, List.cons_append, Bool.and_eq_true, List.contains_iff_mem] at hus ⊢
      exact ⟨List.mem_append_left _ hus.1, ih hus.2⟩
    all_goals exact ih hus

theorem restoreClosed_tail {u : MicroOp} {us : List MicroOp} (h : restoreClosed (u :: us) = true) :
    restoreClosed us = true ∧ (u = .restoreSettings → MicroOp.restoreChan ∈ us) := by
  cases u
  case restoreSettings =>
    simp only [restoreClosed, Bool.and_eq_true, List.contains_iff_mem] at h
    exact ⟨h.2, fun _ => h.1⟩
  all_goals exact ⟨h, nofun⟩

theorem mem_factoryOps {c : Cfg} {u : MicroOp} : u ∈ factoryOps c ↔
    (∃ a < nvSize c - 2, .nvFill (a + 2) 0 = u) ∨ u = .nvFill 5 c.chanDefault ∨ u = .nvFill 0 c.magic0 ∨
      u = .nvFill 1 c.magic1 := by
  simp [factoryOps]

/-- What a micro-operation lists itself: a write of the byte it read, the marker's second read, or fills within the
region and the restore. -/
theorem followUps_cases {u v : MicroOp} (h : v ∈ followUps s u) :
    v = .writeSettings (Memory.read s.nv 3) ∨ (∃ m, v = .bootMagic1 m) ∨ v ∈ factoryOps s.cfg ∨ v ∈ restoreOps := by
  cases u <;> simp only [followUps, List.mem_singleton, List.not_mem_nil] at h
  case readSettings => exact .inl h
  case bootMagic0 => exact .inr (.inl ⟨_, h⟩)
  case bootMagic1 =>
    split at h
    · exact .inr (.inr (.inr h))
    · exact .inr (.inr (List.mem_append.mp h))

theorem followUps_namedAddr_lt (hwf : s.cfg.wf = true) {u v : MicroOp} (h : v ∈ followUps s u) {a : Nat}
    (ha : v.namedAddr = some a) : a < nvSize s.cfg := by
  have header {b : Nat} (hb : b < 6) : b < nvSize s.cfg := header_lt_nvSize hwf hb
  obtain rfl | ⟨m, rfl⟩ | hv | hv := followUps_cases h
  · cases ha
  · cases ha
  · obtain ⟨b, hb, rfl⟩ | rfl | rfl | rfl := mem_factoryOps.mp hv <;> cases ha
    · omega
    · exact header (by decide)
    · exact header (by decide)
    · exact header (by decide)
  · simp only [restoreOps, List.mem_cons, List.not_mem_nil, or_false] at hv
    obtain rfl | rfl | rfl | rfl := hv <;> cases ha

theorem followUps_restoreClosed (s : State) (u : MicroOp) : restoreClosed (followUps s u) = true := by
  have hfactory : MicroOp.restoreSettings ∉ factoryOps s.cfg := by simp [mem_factoryOps]
  cases u
  case bootMagic1 =>
    simp only [followUps]
    split
    · rfl
    · exact restoreClosed_append (restoreClosed_of_not_mem hfactory) rfl
  all_goals rfl

/-! ### A micro-operation keeps the control port's half -/

/-- Only the gated read writes `la_hold`, and with the lookahead (R263). -/
theorem runMicro_laHold {u : MicroOp} (h : runMicro u s = .next t) :
    t.ctl.laHold = s.ctl.laHold ∨ t.ctl.laHold = s.eng.la := by
  have heff := runMicro_next h
  cases u <;> simp only [MicroEffect] at heff
  case capture => exact .inr (by rw [heff, gatedCapture_eq])
  case unpackFlags e o a =>
    obtain ⟨-, -, -, hctl, -⟩ := unpackByte_rest s e o (Memory.read s.nv a)
    exact .inl (by rw [heff, hctl])
  case recordFlag | recordRate =>
    obtain ⟨x, -, rfl⟩ := heff
    exact .inl rfl
  case packFlags | packPitch | nvFill =>
    obtain ⟨-, rfl⟩ := heff
    exact .inl rfl
  all_goals subst heff; exact .inl rfl

/-- Of all micro-operations only the end of `ERASE` and the restore write the transport bit; of these only the
restore's settings can leave an armed transport stopped (R208, R247). -/
theorem runMicro_forced {u : MicroOp} (h : runMicro u s = .next t) (hu : u ≠ .restoreSettings) :
    t.ctl.recArmed = true →
      t.ctl.run = true ∨ (u ≠ .restoreChan ∧ s.ctl.recArmed = true ∧ s.ctl.run = false) := by
  have heff := runMicro_next h
  have unchanged (hne : u ≠ .restoreChan) (hrec : t.ctl.recArmed = s.ctl.recArmed) (hrun : t.ctl.run = s.ctl.run) :
      t.ctl.recArmed = true → t.ctl.run = true ∨ (u ≠ .restoreChan ∧ s.ctl.recArmed = true ∧ s.ctl.run = false) :=
    fun harmed => (forced_of_unchanged hrec hrun harmed).imp_right fun hs => ⟨hne, hs⟩
  cases u <;> simp only [MicroEffect] at heff
  case restoreSettings => exact absurd rfl hu
  case eraseDone => rw [heff]; nofun
  case restoreChan =>
    intro harmed
    rw [heff] at harmed ⊢
    exact .inl (by simp [forcedRun, show s.ctl.recArmed = true from harmed])
  case capture => rw [gatedCapture_eq] at heff; exact unchanged nofun (heff ▸ rfl) (heff ▸ rfl)
  case unpackFlags e o a =>
    obtain ⟨-, -, -, hctl, -⟩ := unpackByte_rest s e o (Memory.read s.nv a)
    exact unchanged nofun (by rw [heff, hctl]) (by rw [heff, hctl])
  case recordFlag | recordRate =>
    obtain ⟨x, -, rfl⟩ := heff
    exact unchanged nofun rfl rfl
  case packFlags | packPitch | nvFill =>
    obtain ⟨-, rfl⟩ := heff
    exact unchanged nofun rfl rfl
  all_goals subst heff; exact unchanged nofun rfl rfl

/-- A waiting micro-operation, taken off the list and run, keeps the control port's half. -/
theorem runMicro_controlOk {u : MicroOp} {us : List MicroOp} (hwf : s.cfg.wf = true) (hla : s.eng.la.toNat < 32)
    (hs : ControlOk (s.setProg (u :: us))) (h : runMicro u (s.setProg us) = .next t) : ControlOk t := by
  have hcfg : t.cfg = s.cfg := (runMicro_leavesEngine h).cfg
  have hprog : t.prog = followUps (s.setProg us) u ++ us := runMicro_prog h
  obtain ⟨hclosed, hrestore⟩ := restoreClosed_tail hs.progClosed
  constructor
  case laHold =>
    obtain heq | heq := runMicro_laHold h
    · rw [heq]; exact hs.laHold
    · rw [heq]; exact hla
  case nvCanonical =>
    obtain ⟨-, heq⟩ | ⟨a, b, -, -, heq⟩ := runMicro_nv h
    · rw [heq]; exact hs.nvCanonical
    · rw [heq]; exact Memory.write_wf a b hs.nvCanonical
  case nvBounded =>
    rw [hcfg]
    obtain ⟨-, heq⟩ | ⟨a, b, -, ha, heq⟩ := runMicro_nv h
    · rw [heq]; exact hs.nvBounded
    · rw [heq]; exact Memory.write_bound b hs.nvBounded ha
  case gateOpen =>
    obtain ⟨heq, -⟩ | ⟨heq, -⟩ := (runMicro_keepsPorts h).strobe
    · exact heq.trans hs.gateOpen
    · exact heq
  case progBounded =>
    rw [hcfg, hprog]
    intro v hv a ha
    obtain hv | hv := List.mem_append.mp hv
    · exact followUps_namedAddr_lt (s := s.setProg us) hwf hv ha
    · exact hs.progBounded v (List.mem_cons_of_mem _ hv) a ha
  case progClosed =>
    rw [hprog]
    exact restoreClosed_append (followUps_restoreClosed _ u) hclosed
  case forced =>
    intro harmed
    rw [hprog]
    by_cases hu : u = .restoreSettings
    · exact .inr (List.mem_append_right _ (hrestore hu))
    · obtain hrun | ⟨hne, hrec, hstop⟩ := runMicro_forced h hu harmed
      · exact .inl hrun
      · obtain hrun | hmem := hs.forced hrec
        · exact absurd (hrun.symm.trans hstop) (by decide)
        · obtain heq | hmem := List.mem_cons.mp hmem
          · exact absurd heq.symm hne
          · exact .inr (List.mem_append_right _ hmem)

/-! ### An operation and a move keep it -/

theorem registerWrite_controlOk (hs : ControlOk s) (h : RegisterWrite s t) : ControlOk t where
  laHold := h.laHold ▸ hs.laHold
  nvCanonical := h.nv ▸ hs.nvCanonical
  nvBounded := by rw [h.nv, h.cfg]; exact hs.nvBounded
  gateOpen := h.ports.1.trans hs.gateOpen
  progBounded := by rw [h.prog, h.cfg]; exact hs.progBounded
  progClosed := h.prog ▸ hs.progClosed
  forced harmed := by
    obtain hrun | ⟨hrec, hstop⟩ := h.forced harmed
    · exact .inl hrun
    · obtain hrun | hmem := hs.forced hrec
      · exact absurd (hrun.symm.trans hstop) (by decide)
      · exact .inr (h.prog ▸ hmem)

/-- The micro-operations of a command may be put into an empty list. -/
theorem commandOps_controlOk (hwf : s.cfg.wf = true) (hs : ControlOk s) (hprog : s.prog = []) (i : Instr) :
    ControlOk (s.setProg (commandOps s i)) where
  laHold := hs.laHold
  nvCanonical := hs.nvCanonical
  nvBounded := hs.nvBounded
  gateOpen := hs.gateOpen
  progBounded u hu _ ha := (commandOps_issued hwf i u hu).namedAddr_lt ha
  progClosed := restoreClosed_of_not_mem fun hmem => commandOps_issued hwf i _ hmem
  forced harmed := .inl ((hs.forced harmed).resolve_right (by simp [hprog]))

theorem exec_controlOk {i : Instr} (hwf : s.cfg.wf = true) (hla : s.eng.la.toNat < 32) (hs : ControlOk s)
    (hprog : s.prog = []) (hi : i ≠ .tick) (h : exec i s = .next t) : ControlOk t := by
  obtain hw | hissue | ⟨-, rfl⟩ := exec_next hi h
  · exact registerWrite_controlOk hs hw
  · have hcommand := commandOps_controlOk hwf hs hprog i
    obtain ⟨-, rfl⟩ | ⟨u, rest, hus, hu⟩ := issue_next hissue
    · exact hs
    · rw [hprog, List.append_nil] at hu
      exact runMicro_controlOk hwf hla (hus ▸ hcommand) hu
  · rw [gatedCapture_eq]
    exact ⟨hla, hs.nvCanonical, hs.nvBounded, rfl, hs.progBounded, hs.progClosed, hs.forced⟩

theorem controlMove_inv (h : Inv s) (hmove : controlMove s = .next t) : Inv t := by
  obtain ⟨hwf, heng, hctl⟩ := inv_iff.mp h
  have hleaves := controlMove_leavesEngine hmove
  refine inv_iff.mpr ⟨hleaves.cfg ▸ hwf, by rwa [hleaves.cfg, hleaves.eng], ?_⟩
  obtain ⟨u, us, hprog, hu⟩ | ⟨w, ws, i, hprog, -, -, hi, hexec⟩ | ⟨-, -, rfl⟩ := controlMove_next hmove
  · exact runMicro_controlOk hwf heng.la (hctl.congr rfl rfl rfl hprog.symm rfl) hu
  · exact exec_controlOk (s := s.setTrace ws) hwf heng.la (hctl.congr rfl rfl rfl rfl rfl) hprog hi hexec
  · exact hctl

/-- The schedule, the strobe on its port and the held one are no part of the invariant. -/
theorem inv_setStrobes (h : Inv s) (l : List Slot) (p b : Bool) :
    Inv { s with sched := l, tickPend := p, tickStb := b } :=
  ⟨h.cfgOk, h.voices, h.la, h.laHold, h.clickEnv, h.pulse, h.nvCanonical, h.nvBounded, h.gateOpen, h.progBounded,
    h.progClosed, h.forced⟩

/-! ### The statements -/

/-- Settles O13: a tick keeps the engine's half, a move of the control port its own, and each leaves the other's; a
strobe is held only under a closed gate, which is open between moves. -/
theorem everyStepKeepsTheInvariant : Obligations.EveryStepKeepsTheInvariant := by
  intro s t h hstep
  obtain ⟨-, ⟨-, rfl⟩ | ⟨r, -, -, -, rfl⟩ | ⟨r, -, -, hclosed, -⟩ | ⟨r, -, -, hmove⟩ |
    ⟨r, v, -, -, hmove, rfl⟩ | ⟨r, -, -, hmove⟩ | ⟨-, -, hmove⟩⟩ := step_next hstep
  · obtain ⟨p, b, htake⟩ := takeStrobe_eq s
    exact tick_inv (htake ▸ inv_setStrobes h s.sched p b)
  · exact tick_inv (inv_setStrobes h r s.tickPend s.tickStb)
  · exact absurd (h.gateOpen.symm.trans hclosed) (by decide)
  · exact controlMove_inv (inv_setStrobes h r s.tickPend s.tickStb) hmove
  · have hv : Inv v := controlMove_inv (inv_setStrobes h r s.tickPend s.tickStb) hmove
    split
    · exact hv
    · exact inv_setStrobes hv _ v.tickPend v.tickStb
  · exact controlMove_inv (inv_setStrobes h r s.tickPend true) hmove
  · exact controlMove_inv h hmove

/-- Settles O14: no voice plays, the counters are 0, the region is empty and nothing waits. -/
theorem resetMeetsTheInvariant : Obligations.ResetMeetsTheInvariant where
  cfgOk := by decide
  voices := by unfold voiceOk; decide
  la := by decide
  laHold := by decide
  clickEnv := by decide
  pulse := by decide
  nvCanonical := rfl
  nvBounded := nofun
  gateOpen := rfl
  progBounded := nofun
  progClosed := rfl
  forced := nofun

/-- Settles O16: with nothing left to run, no restore is open. -/
theorem armedImpliesRunningBetweenOperations : Obligations.ArmedImpliesRunningBetweenOperations := by
  intro s t h hstep hprog harmed
  have ht : Inv t := everyStepKeepsTheInvariant s t h hstep
  exact (ht.forced harmed).resolve_right (by simp [hprog])

/-- From a good state the control port's move completes, or refuses the word it finds (R91, R95, R310). -/
theorem controlMove_completes_or_refuses (h : Inv s) : (∃ t, controlMove s = .next t) ∨
    ∃ q, controlMove s = .refused q ∧ ∃ w ws, s.trace = w :: ws ∧
      ((∃ e, decode w = .error e ∧ q = .illegalWord w e) ∨ (decode w = .ok .tick ∧ q = .tickOnPort)) := by
  cases hprog : s.prog with
  | cons u us =>
    rw [controlMove_of_prog hprog]
    exact .inl (runMicro_completes (s := s.setProg us) h.cfgOk h.laHold
      (h.progBounded u (hprog ▸ List.mem_cons_self)))
  | nil =>
    cases htrace : s.trace with
    | nil => exact .inl ⟨s, controlMove_of_idle hprog htrace⟩
    | cons w ws =>
      cases hdec : decode w with
      | error e => exact .inr ⟨_, controlMove_of_illegal hprog htrace hdec, w, ws, rfl, .inl ⟨e, hdec, rfl⟩⟩
      | ok i =>
        by_cases hi : i = .tick
        · subst hi
          exact .inr ⟨_, controlMove_of_tickWord hprog htrace hdec, w, ws, rfl, .inr ⟨hdec, rfl⟩⟩
        · rw [controlMove_of_decode hprog htrace hdec hi]
          exact .inl (exec_completes (s := s.setTrace ws) h.cfgOk h.laHold i)

/-- From a good state a step completes, or is the port's refusal of the next word. -/
theorem step_completes_or_refuses (h : Inv s) : (∃ t, step s = .next t) ∨
    ∃ q, step s = .refused q ∧ ∃ w ws, s.trace = w :: ws ∧
      ((∃ e, decode w = .error e ∧ q = .illegalWord w e) ∨ (decode w = .ok .tick ∧ q = .tickOnPort)) := by
  cases hdue : s.strobeDue
  case true => exact .inl ⟨_, step_of_due h.cfgOk hdue⟩
  case false =>
    cases hsched : s.sched with
    | nil => rw [step_of_empty h.cfgOk hdue hsched]; exact controlMove_completes_or_refuses h
    | cons slot r =>
      cases slot
      case tick =>
        rw [step_of_tick h.cfgOk hdue hsched, strobe_of_open (by exact h.gateOpen)]
        exact .inl ⟨_, rfl⟩
      case control =>
        rw [step_of_control h.cfgOk hdue hsched]
        exact controlMove_completes_or_refuses (inv_setStrobes h r s.tickPend s.tickStb)
      case overlap =>
        rw [step_of_overlap h.cfgOk hdue hsched]
        exact controlMove_completes_or_refuses (inv_setStrobes h r s.tickPend true)
      case command =>
        rw [step_of_command h.cfgOk hdue hsched]
        obtain ⟨t, ht⟩ | ⟨q, hq, hword⟩ :=
          controlMove_completes_or_refuses (inv_setStrobes h r s.tickPend s.tickStb)
        · exact .inl ⟨_, keepLine_of_next ht⟩
        · exact .inr ⟨q, congrArg (keepLine r) hq, hword⟩

/-- Settles O15: the step completes, or is one of the port's two refusals. -/
theorem noStepFaults : Obligations.NoStepFaults := by
  intro s h
  obtain ⟨t, ht⟩ | ⟨q, hq, hword⟩ := step_completes_or_refuses h
  · rw [ht]; exact ⟨nofun, nofun⟩
  · rw [hq]
    exact ⟨nofun, fun q' hq' => Host.Outcome.refused.inj hq' ▸ hword⟩

end Sys2Proof.Machine

/-! PROOFS. The persisted region: who writes a byte of it, and the run bit that stays clear (R37, R66, R76, R238, R246,
R260, R261, R354). -/

namespace Sys2Proof.Machine

variable {s t : State}

/-- Settles O20: an operation and a micro-operation of the control port leave the engine. -/
theorem controlPortNeverWritesTheEngine : Obligations.ControlPortNeverWritesTheEngine := by
  refine ⟨fun i s t hi h => ?_, fun u s t h => ?_⟩
  · obtain ⟨heng, hsamples, hcfg, hraised⟩ := exec_leavesEngine hi h
    exact ⟨heng, hsamples, hcfg, hraised⟩
  · obtain ⟨heng, hsamples, hcfg, hraised⟩ := runMicro_leavesEngine h
    exact ⟨heng, hsamples, hcfg, hraised⟩

/-! ### Where a byte is stored (R76) -/

/-- A micro-operation changes no byte but the one at its store address. -/
theorem runMicro_read_other {u : MicroOp} (h : runMicro u s = .next t) {a : Nat} (ha : u.storeAddr ≠ some a) :
    Memory.read t.nv a = Memory.read s.nv a := by
  obtain ⟨-, heq⟩ | ⟨b, v, hb, -, heq⟩ := runMicro_nv h
  · rw [heq]
  · rw [heq, Memory.read_write_other v fun (hab : a = b) => ha (hab ▸ hb)]

/-- Of the first micro-operations of all commands none is a gated read, and only that of `SAVE` stores a byte: the
record's first (R201, R238). -/
theorem commandOps_head {i : Instr} {u : MicroOp} {us : List MicroOp} (h : commandOps s i = u :: us) :
    u ≠ .capture ∧ (u.storeAddr = none ∨ ∃ x n, i = .save x ∧ fourArg x = some n ∧
      u.storeAddr = some (s.cfg.hdrSize + n.val * s.cfg.slotSize)) := by
  cases i <;> simp only [commandOps, reduceCtorEq] at h
  case trig a =>
    cases harg : fourArg a <;> rw [harg] at h
    · cases h
    · obtain ⟨rfl, -⟩ := List.cons.inj ((trigOps_eq s _).symm.trans h)
      exact ⟨nofun, .inl rfl⟩
  case erase =>
    obtain ⟨rfl, -⟩ := List.cons.inj h
    exact ⟨nofun, .inl rfl⟩
  case save a =>
    cases harg : fourArg a <;> rw [harg] at h
    · cases h
    · obtain ⟨rfl, -⟩ := List.cons.inj h
      exact ⟨nofun, .inr ⟨a, _, rfl, harg, rfl⟩⟩
  case load a =>
    cases harg : fourArg a <;> rw [harg] at h
    · cases h
    · obtain ⟨rfl, -⟩ := List.cons.inj h
      exact ⟨nofun, .inl rfl⟩
  case boot =>
    obtain ⟨rfl, -⟩ := List.cons.inj h
    exact ⟨nofun, .inl rfl⟩
  case mnote ch id =>
    split at h
    · split_ifs at h
      obtain ⟨rfl, -⟩ := List.cons.inj ((trigOps_eq s _).symm.trans h)
      exact ⟨nofun, .inl rfl⟩
    · cases h

/-- Settles O24: a micro-operation stores at its store address alone; an operation stores what its first one does. -/
theorem persistedBytesChangeOnlyWhereStored : Obligations.PersistedBytesChangeOnlyWhereStored := by
  refine ⟨fun u s t h a ha => runMicro_read_other h ha, fun i s t h a ha => ?_⟩
  by_cases hi : i = .tick
  · subst hi
    rw [← Host.Outcome.next.inj h, tick_nv]
  obtain hw | hissue | ⟨-, rfl⟩ := exec_next hi h
  · rw [hw.nv]
  · obtain ⟨-, rfl⟩ | ⟨u, us, hus, hu⟩ := issue_next hissue
    · rfl
    · refine runMicro_read_other hu ?_
      obtain ⟨-, hnone | ⟨x, n, hsave, harg, hstore⟩⟩ := commandOps_head hus
      · simp [hnone]
      · intro heq
        exact ha x n hsave harg (Option.some.inj (heq.symm.trans hstore))
  · rw [gatedCapture_eq]
    rfl

/-! ### The persisted run bit (R354) -/

/-- A waiting micro-operation that cannot set bit 0 of the settings byte. -/
def NeverSetsRunBit : MicroOp → Prop
  | .writeSettings x => x.getLsbD 0 = false
  | .nvFill a b => a = 3 → b.getLsbD 0 = false
  | .packFlags _ _ a | .packPitch _ _ a => a ≠ 3
  | _ => True

theorem runBitClear_iff : RunBitClear s ↔ s.cfg.wf = true ∧ (Memory.read s.nv 3).getLsbD 0 = false ∧
    Memory.wf s.nv = true ∧ ∀ u ∈ s.prog, NeverSetsRunBit u := by
  constructor
  · rintro ⟨hwf, hbit, hcan, hsettings, hfills, hpacks⟩
    refine ⟨hwf, hbit, hcan, fun u hu => ?_⟩
    obtain ⟨hflags, hpitch⟩ := hpacks u hu
    cases u
    case writeSettings x => exact hsettings x hu
    case nvFill a b => rintro rfl; exact hfills b hu
    case packFlags => exact hflags _ _ _ rfl
    case packPitch => exact hpitch _ _ _ rfl
    all_goals trivial
  · rintro ⟨hwf, hbit, hcan, hprog⟩
    exact ⟨hwf, hbit, hcan, fun x hx => hprog _ hx, fun b hb => hprog _ hb rfl,
      fun u hu => ⟨fun e o a he => by subst he; exact hprog _ hu, fun p x a he => by subst he; exact hprog _ hu⟩⟩

/-- Bit 0 of the byte `SAVE` writes is the bit it kept (R238). -/
theorem settingsByte_bit0 : ∀ r d m : Bool, (settingsByte r d m).getLsbD 0 = r := by decide

/-- A micro-operation that cannot set the bit leaves it clear. -/
theorem runMicro_bit {u : MicroOp} (hu : NeverSetsRunBit u) (hcan : Memory.wf s.nv = true)
    (hbit : (Memory.read s.nv 3).getLsbD 0 = false) (h : runMicro u s = .next t) :
    (Memory.read t.nv 3).getLsbD 0 = false := by
  by_cases hstore : u.storeAddr = some 3
  case neg => rwa [runMicro_read_other h hstore]
  have heff := runMicro_next h
  cases u <;> simp only [MicroOp.storeAddr, reduceCtorEq, Option.some.injEq, Nat.reduceEqDiff] at hstore <;>
    simp only [MicroEffect] at heff
  case packFlags | packPitch => exact absurd hstore hu
  case writeSettings x =>
    rw [heff, setNv_nv, Memory.read_write_same _ _ hcan, settingsByte_bit0]
    exact hu
  case nvFill a b =>
    obtain ⟨-, rfl⟩ := heff
    rw [setNv_nv, hstore, Memory.read_write_same _ _ hcan]
    exact hu hstore

theorem runMicro_nvCanonical {u : MicroOp} (hcan : Memory.wf s.nv = true) (h : runMicro u s = .next t) :
    Memory.wf t.nv = true := by
  obtain ⟨-, heq⟩ | ⟨a, b, -, -, heq⟩ := runMicro_nv h
  · rwa [heq]
  · rw [heq]; exact Memory.write_wf a b hcan

/-- What a micro-operation lists cannot set the bit: it has read it as 0, or writes the factory's 0 (R246). -/
theorem followUps_neverSetsRunBit (hbit : (Memory.read s.nv 3).getLsbD 0 = false) {u v : MicroOp}
    (h : v ∈ followUps s u) : NeverSetsRunBit v := by
  obtain rfl | ⟨m, rfl⟩ | hv | hv := followUps_cases h
  · exact hbit
  · trivial
  · obtain ⟨a, -, rfl⟩ | rfl | rfl | rfl := mem_factoryOps.mp hv
    · exact fun _ => rfl
    all_goals exact fun heq => absurd heq (by decide)
  · simp only [restoreOps, List.mem_cons, List.not_mem_nil, or_false] at hv
    obtain rfl | rfl | rfl | rfl := hv <;> trivial

theorem IssuedOp.neverSetsRunBit {c : Cfg} (hwf : c.wf = true) {u : MicroOp} (h : IssuedOp c u) :
    NeverSetsRunBit u := by
  have hhdr := (wf_layout hwf).1
  cases u
  case packFlags | packPitch =>
    intro heq
    obtain ⟨hle, -⟩ := h
    omega
  case writeSettings | nvFill => exact h.elim
  all_goals trivial

theorem RunBitClear.congr (h : RunBitClear s) (hcfg : t.cfg = s.cfg) (hnv : t.nv = s.nv) (hprog : t.prog = s.prog) :
    RunBitClear t := by
  rw [runBitClear_iff] at h ⊢
  rwa [hcfg, hnv, hprog]

theorem runMicro_runBitClear {u : MicroOp} {us : List MicroOp} (hs : RunBitClear (s.setProg (u :: us)))
    (h : runMicro u (s.setProg us) = .next t) : RunBitClear t := by
  obtain ⟨hwf, hbit, hcan, hprog⟩ := runBitClear_iff.mp hs
  refine runBitClear_iff.mpr ⟨(runMicro_leavesEngine h).cfg ▸ hwf,
    runMicro_bit (s := s.setProg us) (hprog u List.mem_cons_self) hcan hbit h,
    runMicro_nvCanonical (s := s.setProg us) hcan h, fun v hv => ?_⟩
  rw [runMicro_prog h] at hv
  obtain hv | hv := List.mem_append.mp hv
  · exact followUps_neverSetsRunBit (s := s.setProg us) hbit hv
  · exact hprog v (List.mem_cons_of_mem _ hv)

theorem exec_runBitClear {i : Instr} (hs : RunBitClear s) (hprog : s.prog = []) (hi : i ≠ .tick)
    (h : exec i s = .next t) : RunBitClear t := by
  obtain ⟨hwf, hbit, hcan, -⟩ := runBitClear_iff.mp hs
  obtain hw | hissue | ⟨-, rfl⟩ := exec_next hi h
  · exact hs.congr hw.cfg hw.nv hw.prog
  · obtain ⟨-, rfl⟩ | ⟨u, rest, hus, hu⟩ := issue_next hissue
    · exact hs
    · rw [hprog, List.append_nil] at hu
      have hcommand : ∀ v ∈ u :: rest, NeverSetsRunBit v := fun v hv =>
        (commandOps_issued hwf i v (hus ▸ hv)).neverSetsRunBit hwf
      exact runMicro_runBitClear (runBitClear_iff.mpr ⟨hwf, hbit, hcan, hcommand⟩) hu
  · rw [gatedCapture_eq]
    exact hs.congr rfl rfl rfl

theorem controlMove_runBitClear (hs : RunBitClear s) (h : controlMove s = .next t) : RunBitClear t := by
  obtain ⟨u, us, hprog, hu⟩ | ⟨w, ws, i, hprog, -, -, hi, hexec⟩ | ⟨-, -, rfl⟩ := controlMove_next h
  · exact runMicro_runBitClear (hs.congr rfl rfl hprog.symm) hu
  · exact exec_runBitClear (s := s.setTrace ws) (hs.congr rfl rfl rfl) hprog hi hexec
  · exact hs

/-- Settles O17: neither a tick nor a held strobe writes the region, and a move of the control port keeps the bit. -/
theorem persistedRunBitStaysClear : Obligations.PersistedRunBitStaysClear := by
  intro s t h hstep
  obtain ⟨-, ⟨-, rfl⟩ | ⟨r, -, -, -, rfl⟩ | ⟨r, -, -, -, rfl⟩ | ⟨r, -, -, hmove⟩ |
    ⟨r, v, -, -, hmove, rfl⟩ | ⟨r, -, -, hmove⟩ | ⟨-, -, hmove⟩⟩ := step_next hstep
  · obtain ⟨p, b, htake⟩ := takeStrobe_eq s
    rw [htake]
    exact h.congr (tick_cfg _) (tick_nv _) (tick_prog _)
  · exact h.congr (tick_cfg _) (tick_nv _) (tick_prog _)
  · exact h.congr rfl rfl rfl
  · exact controlMove_runBitClear (s := s.setSched r) (h.congr rfl rfl rfl) hmove
  · have hv : RunBitClear v := controlMove_runBitClear (s := s.setSched r) (h.congr rfl rfl rfl) hmove
    split
    · exact hv
    · exact hv.congr rfl rfl rfl
  · exact controlMove_runBitClear (s := (s.setSched r).setTickStb true) (h.congr rfl rfl rfl) hmove
  · exact controlMove_runBitClear h hmove

end Sys2Proof.Machine

/-! PROOFS. The control port sees nothing of the tick engine but the lookahead it captures (R37, R70, R260, R269,
R323, R345). -/

namespace Sys2Proof.Machine

variable {s t v : State}

/-! ### A state seen with another engine -/

/-- What the control port has of s, beside the engine, the requests and the strobes of v. -/
def State.besideEngineOf (s v : State) : State :=
  { v with cfg := s.cfg, ctl := s.ctl, pat := s.pat, nv := s.nv, prog := s.prog, trace := s.trace }

theorem sameControl_besideEngineOf (s v : State) : sameControl s (s.besideEngineOf v) := ⟨rfl, rfl, rfl, rfl, rfl, rfl⟩

theorem eq_besideEngineOf (h : sameControl s t) : t = s.besideEngineOf t := by
  obtain ⟨hcfg, hctl, hpat, hnv, hprog, htrace⟩ := h
  rw [State.besideEngineOf, hcfg, hctl, hpat, hnv, hprog, htrace]

theorem sameControl.refl (s : State) : sameControl s s := ⟨rfl, rfl, rfl, rfl, rfl, rfl⟩

theorem sameControl.setFlag (h : sameControl s t) (k : TrackId) (x : PatIx) (b : Bool) :
    sameControl (s.setFlag k x b) (t.setFlag k x b) := by
  rw [eq_besideEngineOf h]
  exact ⟨rfl, rfl, rfl, rfl, rfl, rfl⟩

theorem unpackByte_same (h : sameControl s t) (even odd : PatIx) (b : U8) :
    sameControl (unpackByte s even odd b) (unpackByte t even odd b) := by
  unfold unpackByte
  iterate 8 apply sameControl.setFlag
  exact h

/-! ### Shared operations -/

theorem nvWrite_same (h : sameControl s t) (a : Nat) (b : U8) : sameOutcome (nvWrite s a b) (nvWrite t a b) := by
  rw [eq_besideEngineOf h]
  unfold nvWrite
  by_cases ha : a < nvSize s.cfg
  · rw [if_pos ha, if_pos (by exact ha)]
    exact ⟨rfl, rfl, rfl, rfl, rfl, rfl⟩
  · rw [if_neg ha, if_neg (by exact ha)]
    rfl

theorem withNvByte_same {f g : U8 → Result} (a : Nat) (hfg : ∀ b, sameOutcome (f b) (g b)) :
    sameOutcome (withNvByte s a f) (withNvByte (s.besideEngineOf v) a g) := by
  by_cases ha : a < nvSize s.cfg
  · rw [withNvByte_of_lt f ha, withNvByte_of_lt (s := s.besideEngineOf v) g ha]
    exact hfg _
  · have hs : nvRead s a = none := if_neg ha
    have hv : nvRead (s.besideEngineOf v) a = none := if_neg ha
    simp only [withNvByte, hs, hv]
    rfl

theorem atRecordIdx_same {f g : PatIx → Result} (b : BankId) (hfg : ∀ x, sameOutcome (f x) (g x)) :
    sameOutcome (atRecordIdx s b f) (atRecordIdx (s.besideEngineOf v) b g) := by
  have hidx : recordIdx (s.besideEngineOf v).ctl.laHold b = recordIdx s.ctl.laHold b := rfl
  unfold atRecordIdx
  rw [hidx]
  cases recordIdx s.ctl.laHold b
  · rfl
  · exact hfg _

theorem gatedCapture_same (hla : s.eng.la = v.eng.la) :
    sameControl (gatedCapture s) (gatedCapture (s.besideEngineOf v)) := by
  rw [gatedCapture_eq, gatedCapture_eq]
  exact ⟨rfl, congrArg (fun la => { s.ctl with laHold := la }) hla, rfl, rfl, rfl, rfl⟩

/-! ### Moves of the control port -/

theorem runMicro_same {u : MicroOp} (hla : s.eng.la = v.eng.la ∨ u ≠ .capture) :
    sameOutcome (runMicro u s) (runMicro u (s.besideEngineOf v)) := by
  have hsame := sameControl_besideEngineOf s v
  cases u <;> simp only [runMicro]
  case capture => exact gatedCapture_same (hla.resolve_right (fun h => h rfl))
  case request | clearFlag | clearPitch | eraseDone => exact ⟨rfl, rfl, rfl, rfl, rfl, rfl⟩
  case recordFlag | recordRate => exact atRecordIdx_same _ fun _ => ⟨rfl, rfl, rfl, rfl, rfl, rfl⟩
  case packFlags | packPitch | writeSettings | writeBank | writeChan | nvFill => exact nvWrite_same hsame _ _
  case writeSlot n =>
    exact nvWrite_same (s := s.setLastSlot n) (t := (s.besideEngineOf v).setLastSlot n) ⟨rfl, rfl, rfl, rfl, rfl, rfl⟩ _ _
  case unpackFlags => exact withNvByte_same _ fun _ => unpackByte_same hsame _ _ _
  case restoreSettings =>
    refine withNvByte_same _ fun x => ?_
    rw [applySettings_eq, applySettings_eq]
    exact ⟨rfl, rfl, rfl, rfl, rfl, rfl⟩
  case readSettings | unpackPitch | bootMagic0 | bootMagic1 | restoreSlot | restoreBank | restoreChan =>
    exact withNvByte_same _ fun _ => ⟨rfl, rfl, rfl, rfl, rfl, rfl⟩

theorem issue_same {us : List MicroOp} (hla : s.eng.la = v.eng.la ∨ ∀ rest, us ≠ .capture :: rest) :
    sameOutcome (issue us s) (issue us (s.besideEngineOf v)) := by
  cases us with
  | nil => exact sameControl_besideEngineOf s v
  | cons u rest =>
    exact runMicro_same (s := s.setProg (rest ++ s.prog)) (v := v)
      (hla.imp_right fun hne hu => hne rest (congrArg (· :: rest) hu))

/-- A command starts with no gated read, so its first micro-operation reads no lookahead (R201). -/
theorem issue_commandOps_same (i : Instr) :
    sameOutcome (issue (commandOps s i) s) (issue (commandOps s i) (s.besideEngineOf v)) :=
  issue_same (.inr fun _ hus => (commandOps_head hus).1 rfl)

theorem writeRate_same (r : Fin 4) (x : S16) : sameControl (writeRate s r x) (writeRate (s.besideEngineOf v) r x) := by
  rw [writeRate_eq, writeRate_eq]
  split <;> exact ⟨rfl, rfl, rfl, rfl, rfl, rfl⟩

theorem performNote_same (act : NoteAct) :
    sameOutcome (performNote act s) (performNote act (s.besideEngineOf v)) := by
  cases act
  case trig k => exact issue_same (us := trigOps s k) (.inr (by simp [trigOps_eq]))
  case bank | dir | mix | nothing => exact ⟨rfl, rfl, rfl, rfl, rfl, rfl⟩

theorem exec_mclk_same : sameOutcome (exec .mclk s) (exec .mclk (s.besideEngineOf v)) := by
  cases hrun : s.ctl.run
  · rw [exec_mclk_stopped hrun, exec_mclk_stopped (s := s.besideEngineOf v) hrun]
    by_cases hhit : s.ctl.divN.toNat ≤ (s.ctl.divCnt.toNat + 1) % 256
    · rw [if_pos hhit, if_pos (by exact hhit)]
      exact ⟨rfl, rfl, rfl, rfl, rfl, rfl⟩
    · rw [if_neg hhit, if_neg (by exact hhit)]
      exact ⟨rfl, rfl, rfl, rfl, rfl, rfl⟩
  · rw [exec_mclk_running hrun, exec_mclk_running (s := s.besideEngineOf v) hrun]
    exact sameControl_besideEngineOf s v

/-- No operation but `RDLA` reads the engine (R37, R260). -/
theorem exec_same {i : Instr} (hi : i ≠ .tick) (hla : s.eng.la = v.eng.la ∨ i ≠ .rdla) :
    sameOutcome (exec i s) (exec i (s.besideEngineOf v)) := by
  have unchanged : sameOutcome (.next s) (.next (s.besideEngineOf v)) := sameControl_besideEngineOf s v
  cases i
  case tick => exact absurd rfl hi
  case rdla =>
    obtain ⟨hcfg, hctl, hpat, hnv, hprog, htrace⟩ :=
      gatedCapture_same (s := s) (hla.resolve_right (fun h => h rfl))
    refine ⟨hcfg, ?_, hpat, hnv, hprog, htrace⟩
    simp only [setRsp_ctl, hctl]
  case trig | erase | save | load | boot =>
    rw [exec_eq_issue rfl, exec_eq_issue rfl]
    exact issue_commandOps_same _
  case tempo | dir | mix | click | chan | div | mstart | mstop | mcont => exact ⟨rfl, rfl, rfl, rfl, rfl, rfl⟩
  case bank => rw [exec_bank_eq, exec_bank_eq]; split_ifs <;> exact ⟨rfl, rfl, rfl, rfl, rfl, rfl⟩
  case rate => rw [exec_rate_eq, exec_rate_eq]; split_ifs <;> exact ⟨rfl, rfl, rfl, rfl, rfl, rfl⟩
  case live => rw [exec_live_eq, exec_live_eq]; split_ifs <;> exact ⟨rfl, rfl, rfl, rfl, rfl, rfl⟩
  case ovr => rw [exec_ovr_eq, exec_ovr_eq]; split_ifs <;> exact ⟨rfl, rfl, rfl, rfl, rfl, rfl⟩
  case run => rw [exec_run_eq, exec_run_eq]; split_ifs <;> exact ⟨rfl, rfl, rfl, rfl, rfl, rfl⟩
  case record => rw [exec_record_eq, exec_record_eq]; split_ifs <;> exact ⟨rfl, rfl, rfl, rfl, rfl, rfl⟩
  case prd a d =>
    simp only [exec, execPrd]
    cases prdArg a d with
    | none => exact unchanged
    | some e => cases e <;> exact ⟨rfl, rfl, rfl, rfl, rfl, rfl⟩
  case mclk => exact exec_mclk_same
  case mnote ch id =>
    by_cases hch : ch = s.ctl.chan
    · rw [exec_mnote_of_channel hch rfl, exec_mnote_of_channel (s := s.besideEngineOf v) hch rfl]
      exact performNote_same _
    · rw [exec_mnote_of_other_channel hch, exec_mnote_of_other_channel (s := s.besideEngineOf v) hch]
      exact unchanged
  case mcc ch id value =>
    by_cases hch : ch = s.ctl.chan
    · cases hidx : ccIndex s.cfg id with
      | none =>
        rw [exec_mcc_of_none hch hidx, exec_mcc_of_none (s := s.besideEngineOf v) hch hidx]
        exact unchanged
      | some r =>
        rw [exec_mcc_of_some hch hidx, exec_mcc_of_some (s := s.besideEngineOf v) hch hidx]
        exact writeRate_same _ _
    · rw [exec_mcc_of_other_channel hch, exec_mcc_of_other_channel (s := s.besideEngineOf v) hch]
      exact unchanged

/-- A move that reads no lookahead, or reads the same one, has the same outcome beside any engine. -/
theorem controlMove_same (hla : s.eng.la = v.eng.la ∨ ((∀ us, s.prog ≠ .capture :: us) ∧
      (s.prog = [] → ∀ w ws, s.trace = w :: ws → decode w ≠ .ok .rdla))) :
    sameOutcome (controlMove s) (controlMove (s.besideEngineOf v)) := by
  cases hprog : s.prog with
  | cons u us =>
    rw [controlMove_of_prog hprog, controlMove_of_prog (s := s.besideEngineOf v) hprog]
    refine runMicro_same (s := s.setProg us) (v := v) (hla.imp_right fun ⟨hcapture, _⟩ hu => ?_)
    exact hcapture us (hprog.trans (congrArg (· :: us) hu))
  | nil =>
    cases htrace : s.trace with
    | nil =>
      rw [controlMove_of_idle hprog htrace, controlMove_of_idle (s := s.besideEngineOf v) hprog htrace]
      exact sameControl_besideEngineOf s v
    | cons w ws =>
      cases hdec : decode w with
      | error e =>
        rw [controlMove_of_illegal hprog htrace hdec,
          controlMove_of_illegal (s := s.besideEngineOf v) hprog htrace hdec]
        rfl
      | ok i =>
        by_cases hi : i = .tick
        · subst hi
          rw [controlMove_of_tickWord hprog htrace hdec,
            controlMove_of_tickWord (s := s.besideEngineOf v) hprog htrace hdec]
          rfl
        · rw [controlMove_of_decode hprog htrace hdec hi,
            controlMove_of_decode (s := s.besideEngineOf v) hprog htrace hdec hi]
          refine exec_same (s := s.setTrace ws) (v := v) hi (hla.imp_right fun ⟨_, hrdla⟩ he => ?_)
          exact hrdla hprog w ws htrace (he ▸ hdec)

/-- Settles O22: t is s beside another engine. -/
theorem controlPortLearnsOnlyTheLookahead : Obligations.ControlPortLearnsOnlyTheLookahead := by
  intro s t hsame hla
  rw [eq_besideEngineOf hsame]
  exact controlMove_same hla

/-! ### Ticks between the moves (R70, R269) -/

/-- A move of a command lists no gated read: only a new `TRIG` would. -/
theorem controlMove_no_capture (htrace : s.trace = []) (hcapture : MicroOp.capture ∉ s.prog)
    (h : controlMove s = .next t) : t.trace = [] ∧ MicroOp.capture ∉ t.prog := by
  obtain ⟨u, us, hprog, hu⟩ | ⟨w, ws, i, -, hw, -⟩ | ⟨-, -, rfl⟩ := controlMove_next h
  · refine ⟨(runMicro_keepsPorts hu).trace.trans htrace, ?_⟩
    rw [runMicro_prog hu]
    intro hmem
    obtain hmem | hmem := List.mem_append.mp hmem
    · obtain heq | ⟨m, heq⟩ | hmem | hmem := followUps_cases hmem
      · cases heq
      · cases heq
      · simp [mem_factoryOps] at hmem
      · simp [restoreOps] at hmem
    · exact hcapture (hprog ▸ List.mem_cons_of_mem _ hmem)
  · rw [htrace] at hw
    cases hw
  · exact ⟨htrace, hcapture⟩

theorem sameControl_tick (h : sameControl s t) : sameControl (tick s) t := by
  obtain ⟨hcfg, hctl, hpat, hnv, hprog, htrace⟩ := h
  exact ⟨(tick_cfg s).trans hcfg, (tick_ctl s).trans hctl, (tick_pat s).trans hpat, (tick_nv s).trans hnv,
    (tick_prog s).trans hprog, (tick_trace s).trans htrace⟩

/-- Two ports that are the same stay so when one of them has ticks between its moves. -/
theorem interleave_same (l : List Bool) (hsame : sameControl s t) (htrace : s.trace = [])
    (hcapture : MicroOp.capture ∉ s.prog) : sameOutcome (interleave l s) (moves (l.count false) t) := by
  induction l generalizing s t with
  | nil => exact hsame
  | cons b l ih =>
    cases b
    case true =>
      rw [List.count_cons_of_ne (by decide)]
      exact ih (sameControl_tick hsame) ((tick_trace s).trans htrace) ((tick_prog s).symm ▸ hcapture)
    case false =>
      have hmove : sameOutcome (controlMove s) (controlMove t) :=
        controlPortLearnsOnlyTheLookahead s t hsame (.inr ⟨fun us hus => hcapture (hus ▸ List.mem_cons_self),
          fun _ w ws hw => by rw [htrace] at hw; cases hw⟩)
      rw [List.count_cons_self]
      simp only [interleave, moves]
      cases hs : controlMove s <;> cases ht : controlMove t <;> rw [hs, ht] at hmove
      case next.next s' t' =>
        obtain ⟨htrace', hcapture'⟩ := controlMove_no_capture htrace hcapture hs
        exact ih hmove htrace' hcapture'
      case fault.fault | refused.refused => exact hmove
      all_goals exact hmove.elim

/-- Settles O23: the same machine, with and without the ticks. -/
theorem ticksInsideACommandLeaveItsResult : Obligations.TicksInsideACommandLeaveItsResult :=
  fun l s htrace hcapture => interleave_same l (.refl s) htrace hcapture

end Sys2Proof.Machine

/-! PROOFS. Whole commands as runs of their micro-operations: how a run is put together, and the writes of a list of
micro-operations that agree (R11, R33, R61, R62). With it `TRIG` and `ERASE` run to their ends (R201, R208, R217). -/

namespace Sys2Proof.Machine

variable {s t : State}

/-! ### Putting runs together -/

theorem moves_of_next {m n : Nat} (h : moves m s = .next t) : moves (m + n) s = moves n t := by
  induction m generalizing s with
  | zero =>
    obtain rfl := Host.Outcome.next.inj h
    rw [Nat.zero_add]
  | succ m ih =>
    rw [Nat.succ_add]
    simp only [moves] at h ⊢
    cases hmove : controlMove s with
    | next u => rw [hmove] at h; exact ih h
    | fault r => rw [hmove] at h; cases h
    | refused r => rw [hmove] at h; cases h

/-- The next micro-operation of the list, then the rest of the run. -/
theorem moves_cons {n : Nat} {u : MicroOp} {us : List MicroOp} (h : runMicro u (s.setProg us) = .next t) :
    moves (n + 1) (s.setProg (u :: us)) = moves n t := by
  simp only [moves, controlMove_of_prog (s := s.setProg (u :: us)) rfl]
  exact h ▸ rfl

/-- A command issued with nothing in progress is the run of its micro-operations (R11). -/
theorem perform_eq_moves {i : Instr} (hi : issues i = true) (hprog : s.prog = []) {us : List MicroOp}
    (hus : commandOps s i = us) {n : Nat} (hlen : us.length ≠ 0) : perform i n s = moves (n + 1) (s.setProg us) := by
  obtain ⟨u, rest, rfl⟩ := List.exists_cons_of_length_pos (Nat.pos_of_ne_zero hlen)
  have hexec : exec i s = controlMove (s.setProg (u :: rest)) := by
    rw [exec_eq_issue hi, hus, issue, hprog, List.append_nil, controlMove_of_prog (s := s.setProg (u :: rest)) rfl]
    rfl
  simp only [perform, moves, hexec]
  cases controlMove (s.setProg (u :: rest)) <;> rfl

/-! ### A list of micro-operations whose writes agree -/

section Writes
variable {κ ν : Type} {keeps : State → Prop} {get : State → κ → ν} {touches : MicroOp → κ → Prop} {image : κ → ν}

/-- From a state of a kind, u goes on to one of that kind, gives each place it touches the value an image has there,
and leaves every other place and the rest of the command. -/
def RunsWriting (keeps : State → Prop) (get : State → κ → ν) (touches : MicroOp → κ → Prop) (image : κ → ν)
    (u : MicroOp) : Prop :=
  ∀ s q, keeps s → ∃ t, runMicro u (s.setProg q) = .next (t.setProg q) ∧ keeps t ∧
    (∀ k, touches u k → get t k = image k) ∧ ∀ k, ¬ touches u k → get t k = get s k

/-- After a list of micro-operations that write one image, every touched place is as in the image and every other is
as before. -/
theorem moves_writes {us : List MicroOp} (hrun : ∀ u ∈ us, RunsWriting keeps get touches image u) (p : List MicroOp)
    (hs : keeps s) : ∃ t, moves us.length (s.setProg (us ++ p)) = .next (t.setProg p) ∧ keeps t ∧
      (∀ u ∈ us, ∀ k, touches u k → get t k = image k) ∧
      ∀ k, (∀ u ∈ us, ¬ touches u k) → get t k = get s k := by
  induction us generalizing s with
  | nil => exact ⟨s, rfl, hs, nofun, fun _ _ => rfl⟩
  | cons u us ih =>
    obtain ⟨s', hu, hkeep, hwrite, hleave⟩ := hrun u List.mem_cons_self s (us ++ p) hs
    obtain ⟨t, hmoves, hkeep', hwrites, hleaves⟩ := ih (fun v hv => hrun v (List.mem_cons_of_mem _ hv)) hkeep
    refine ⟨t, (moves_cons hu).trans hmoves, hkeep', fun v hv k hk => ?_, fun k hk => ?_⟩
    · by_cases hlater : ∃ w ∈ us, touches w k
      · obtain ⟨w, hw, hwk⟩ := hlater
        exact hwrites w hw k hwk
      · obtain rfl : v = u := (List.mem_cons.mp hv).resolve_right fun hmem => hlater ⟨v, hmem, hk⟩
        rw [hleaves k fun w hw hwk => hlater ⟨w, hw, hwk⟩]
        exact hwrite k hk
    · rw [hleaves k fun w hw => hk w (List.mem_cons_of_mem _ hw)]
      exact hleave k (hk u List.mem_cons_self)

end Writes

/-! ### Writes to the pattern store -/

/-- The elements a micro-operation writes (R208, R239). -/
def patTarget : MicroOp → PatElem → Prop
  | .clearFlag k x, e => e = .flag k x
  | .clearPitch p x, e => e = .pitch p x
  | .unpackFlags even odd _, e => ∃ k, e = .flag k even ∨ e = .flag k odd
  | .unpackPitch p x _, e => e = .pitch p x
  | _, _ => False

/-- What an element it writes reads as after it: 0, or what the persisted byte holds (R235, R237). -/
def patResult (s : State) : MicroOp → PatElem → U16
  | .unpackFlags even _ a, .flag k x => BitVec.ofNat 16
      (if x = even then (Memory.read s.nv a).getLsbD k.val else (Memory.read s.nv a).getLsbD (4 + k.val)).toNat
  | .unpackPitch _ _ a, .pitch _ _ => expand s.cfg.pitchShift (Memory.read s.nv a)
  | _, _ => 0

/-- A micro-operation that writes the pattern store alone, from a byte of the region if it reads one. -/
def WritesPattern (c : Cfg) : MicroOp → Prop
  | .clearFlag _ _ | .clearPitch _ _ => True
  | .unpackFlags even odd a => even ≠ odd ∧ a < nvSize c
  | .unpackPitch _ _ a => a < nvSize c
  | _ => False

/-- Only the pattern store differs. -/
def samePatternAside (s t : State) : Prop := ∃ p, t = { s with pat := p }

theorem patValue_setFlag (k : TrackId) (x : PatIx) (b : Bool) (e : PatElem) : patValue (s.setFlag k x b) e =
    if e = .flag k x then BitVec.ofNat 16 b.toNat else patValue s e := by
  cases e with
  | flag k' x' =>
    simp only [patValue, setFlag_flag, PatElem.flag.injEq]
    split <;> rfl
  | pitch p y => rfl

theorem patValue_setPitch (p : PairId) (x : PatIx) (v : S16) (e : PatElem) : patValue (s.setPitch p x v) e =
    if e = .pitch p x then v else patValue s e := by
  cases e with
  | flag k y => rfl
  | pitch p' x' => simp only [patValue, setPitch_pitch, PatElem.pitch.injEq]

theorem patValue_unpackByte_flag {even odd : PatIx} (b : U8) (hne : even ≠ odd) (k : TrackId) (x : PatIx) :
    patValue (unpackByte s even odd b) (.flag k x) = BitVec.ofNat 16 (if x = even then b.getLsbD k.val
      else if x = odd then b.getLsbD (4 + k.val) else s.flag k x).toNat := by
  simp only [patValue, unpackByte_flag s b hne]

theorem patValue_unpackByte_pitch (even odd : PatIx) (b : U8) (p : PairId) (x : PatIx) :
    patValue (unpackByte s even odd b) (.pitch p x) = s.pitch p x := by
  simp only [patValue, unpackByte, setFlag_pitch]

/-- A flag is read back from its zero-extended value (R214). -/
theorem flag_of_patValue {k : TrackId} {x : PatIx} {b : Bool}
    (h : patValue s (.flag k x) = BitVec.ofNat 16 b.toNat) : s.flag k x = b := by
  rw [patValue] at h
  revert h
  cases s.flag k x <;> cases b <;> decide

theorem setFlag_setProg (q : List MicroOp) (k : TrackId) (x : PatIx) (v : Bool) :
    (s.setProg q).setFlag k x v = (s.setFlag k x v).setProg q := rfl

theorem unpackByte_setProg (q : List MicroOp) (even odd : PatIx) (b : U8) :
    unpackByte (s.setProg q) even odd b = (unpackByte s even odd b).setProg q := by
  simp only [unpackByte, setFlag_setProg]

theorem runMicro_writesPattern {u : MicroOp} (hu : WritesPattern s.cfg u) : ∀ t q, samePatternAside s t →
    ∃ t', runMicro u (t.setProg q) = .next (t'.setProg q) ∧ samePatternAside s t' ∧
      (∀ e, patTarget u e → patValue t' e = patResult s u e) ∧
      ∀ e, ¬ patTarget u e → patValue t' e = patValue t e := by
  rintro _ q ⟨pat, rfl⟩
  cases u <;> simp only [WritesPattern] at hu
  case clearFlag k x =>
    refine ⟨State.setFlag { s with pat := pat } k x false, rfl, ⟨_, rfl⟩, ?_, fun e he => ?_⟩
    · rintro _ rfl
      rw [patValue_setFlag, if_pos rfl]
      rfl
    · exact (patValue_setFlag k x false e).trans (if_neg he)
  case clearPitch p x =>
    refine ⟨State.setPitch { s with pat := pat } p x 0, rfl, ⟨_, rfl⟩, ?_, fun e he => ?_⟩
    · rintro _ rfl
      rw [patValue_setPitch, if_pos rfl]
      rfl
    · exact (patValue_setPitch p x 0 e).trans (if_neg he)
  case unpackPitch p x a =>
    refine ⟨State.setPitch { s with pat := pat } p x (expand s.cfg.pitchShift (Memory.read s.nv a)),
      withNvByte_of_lt (s := State.setProg { s with pat := pat } q) _ hu, ⟨_, rfl⟩, ?_, fun e he => ?_⟩
    · rintro _ rfl
      rw [patValue_setPitch, if_pos rfl]
      rfl
    · exact (patValue_setPitch p x _ e).trans (if_neg he)
  case unpackFlags even odd a =>
    obtain ⟨hne, ha⟩ := hu
    obtain ⟨pat', hpat⟩ := unpackByte_pat_only { s with pat := pat } even odd (Memory.read s.nv a)
    have hrun : runMicro (.unpackFlags even odd a) (State.setProg { s with pat := pat } q) =
        .next ((unpackByte { s with pat := pat } even odd (Memory.read s.nv a)).setProg q) :=
      (withNvByte_of_lt (s := State.setProg { s with pat := pat } q) _ ha).trans
        (congrArg Host.Outcome.next (unpackByte_setProg q even odd _))
    refine ⟨_, hrun, ⟨pat', hpat⟩, ?_, fun e he => ?_⟩
    · rintro _ ⟨k, rfl | rfl⟩
      · rw [patValue_unpackByte_flag _ hne, patResult, if_pos rfl, if_pos rfl]
      · rw [patValue_unpackByte_flag _ hne, patResult, if_neg hne.symm, if_pos rfl, if_neg hne.symm]
    · cases e with
      | flag k x =>
        have heven : x ≠ even := fun hx => he ⟨k, .inl (congrArg (PatElem.flag k) hx)⟩
        have hodd : x ≠ odd := fun hx => he ⟨k, .inr (congrArg (PatElem.flag k) hx)⟩
        rw [patValue_unpackByte_flag _ hne, if_neg heven, if_neg hodd]
        rfl
      | pitch p x => exact patValue_unpackByte_pitch even odd _ p x

/-- A list of such micro-operations that write one image, as `moves_writes` has it. -/
theorem moves_patternWrites {us : List MicroOp} {image : PatElem → U16} (hus : ∀ u ∈ us, WritesPattern s.cfg u)
    (himage : ∀ u ∈ us, ∀ e, patTarget u e → patResult s u e = image e) (p : List MicroOp) :
    ∃ t, moves us.length (s.setProg (us ++ p)) = .next (t.setProg p) ∧ samePatternAside s t ∧
      (∀ u ∈ us, ∀ e, patTarget u e → patValue t e = image e) ∧
      ∀ e, (∀ u ∈ us, ¬ patTarget u e) → patValue t e = patValue s e := by
  refine moves_writes (fun u hu t q ht => ?_) p ⟨s.pat, rfl⟩
  obtain ⟨t', hrun, hkeep, hwrite, hleave⟩ := runMicro_writesPattern (hus u hu) t q ht
  exact ⟨t', hrun, hkeep, fun e he => (hwrite e he).trans (himage u hu e he), hleave⟩

end Sys2Proof.Machine

/-! PROOFS. The recording of an armed `TRIG` and what `ERASE` leaves (R201, R208, R217), and how the commands that run
over many micro-operations start (R345). -/

namespace Sys2Proof.Machine

variable {s t : State}

/-! ### `TRIG` armed (R201, R217) -/

theorem gatedCapture_setProg (q : List MicroOp) : gatedCapture (s.setProg q) = (gatedCapture s).setProg q := by
  rw [gatedCapture_eq, gatedCapture_eq]
  rfl

/-- The state an armed `TRIG k` has reached when the flag is set. -/
def recordedState (s : State) (k : TrackId) : State :=
  (gatedCapture (s.setReq k)).setFlag k (patIdx (s.eng.la.setWidth 5) s.ctl.bank) true

/-- The request, the capture and the flag, with the rate of a live track still to run. -/
theorem perform_trig_armed {a : U8} {k : TrackId} (ha : a.toNat = k.val) (hrec : s.ctl.recArmed = true)
    (hprog : s.prog = []) (hla : s.eng.la.toNat < 32) (n : Nat) : perform (.trig a) (n + 2) s =
      moves n ((recordedState s k).setProg ((s.cfg.trkLive[k]).toList.map fun r => .recordRate r s.ctl.bank)) := by
  have hexec : exec (.trig a) s = .next ((s.setReq k).setProg (.capture :: .recordFlag k s.ctl.bank ::
      (s.cfg.trkLive[k]).toList.map fun r => .recordRate r s.ctl.bank)) := by
    rw [exec_trig_of_toNat ha, hprog, List.append_nil, recordingOps, if_pos hrec]
    rfl
  have hcapture (q : List MicroOp) :
      runMicro .capture ((s.setReq k).setProg q) = .next ((gatedCapture (s.setReq k)).setProg q) :=
    congrArg Host.Outcome.next (gatedCapture_setProg q)
  have hflag (q : List MicroOp) : runMicro (.recordFlag k s.ctl.bank) ((gatedCapture (s.setReq k)).setProg q) =
      .next ((recordedState s k).setProg q) := by
    have hheld : (gatedCapture (s.setReq k)).ctl.laHold = s.eng.la := by rw [gatedCapture_eq]; rfl
    refine (atRecordIdx_of_lt _ _ (by rw [setProg_ctl, hheld]; exact hla)).trans ?_
    rw [setProg_ctl, hheld]
    rfl
  simp only [perform, hexec]
  exact (moves_cons (hcapture _)).trans (moves_cons (hflag _))

theorem patIdx_val (i : Step32) (b : BankId) : (patIdx i b).val = i.toNat + windowFirst b := by
  rw [patIdx_eq_windowAt]
  rfl

/-- The recording index, as the statements write it. -/
theorem eq_recordIdx_iff {la : U16} {b : BankId} {x : PatIx} (hla : la.toNat < 32) :
    x = patIdx (la.setWidth 5) b ↔ x.val = la.toNat + windowFirst b := by
  rw [Fin.ext_iff, patIdx_val, BitVec.toNat_setWidth, Nat.mod_eq_of_lt hla]

theorem recordedState_flag (hla : s.eng.la.toNat < 32) (k j : TrackId) (x : PatIx) :
    (recordedState s k).flag j x =
      if j = k ∧ x.val = s.eng.la.toNat + windowFirst s.ctl.bank then true else s.flag j x := by
  rw [recordedState, setFlag_flag, gatedCapture_eq]
  simp only [eq_recordIdx_iff hla]
  rfl

/-- Settles O41: with no further move the flag is set at the captured lookahead, which the half-step rule gives
(R124). -/
theorem recordedFlagLandsAtPositionOrNext : Obligations.RecordedFlagLandsAtPositionOrNext := by
  intro s a k ha hrec hprog
  refine ⟨_, perform_trig_armed ha (by rwa [tick_ctl]) (by rwa [tick_prog]) (toNat_tick_la_lt s) 0, fun j x => ?_⟩
  refine (recordedState_flag (toNat_tick_la_lt s) k j x).trans ?_
  rw [toNat_tick_la, tick_ctl]
  simp only [State.flag, tick_pat]

/-- Besides the flag it has written the request, the capture and the strobe the gate held (R265). -/
theorem recordedState_eq (s : State) (k : TrackId) : recordedState s k =
    { s with
      reqs.req := s.reqs.req.set k.val true k.isLt, ctl.laHold := s.eng.la, inhibit := false
      tickPend := s.tickPend || s.tickStb, tickStb := false, pat := (recordedState s k).pat } := by
  rw [recordedState, gatedCapture_eq]
  rfl

/-- The state after the rate of a live track is stored too. -/
def storedRateState (s : State) (k : TrackId) : Option PairId → State
  | some p => (recordedState s k).setPitch p (patIdx (s.eng.la.setWidth 5) s.ctl.bank) (liveRate s p)
  | none => recordedState s k

theorem storedRateState_eq (s : State) (k : TrackId) (live : Option PairId) : storedRateState s k live =
    { recordedState s k with pat := (storedRateState s k live).pat } := by
  cases live <;> rfl

theorem storedRateState_flag (s : State) (k : TrackId) (live : Option PairId) (j : TrackId) (x : PatIx) :
    (storedRateState s k live).flag j x = (recordedState s k).flag j x := by
  cases live <;> rfl

theorem storedRateState_pitch (hla : s.eng.la.toNat < 32) (k : TrackId) (live : Option PairId) (p : PairId)
    (x : PatIx) : (storedRateState s k live).pitch p x =
      if live = some p ∧ x.val = s.eng.la.toNat + windowFirst s.ctl.bank then liveRate s p else s.pitch p x := by
  have hpitch : (recordedState s k).pitch p x = s.pitch p x := by
    rw [recordedState, gatedCapture_eq]
    rfl
  cases live with
  | none => simpa [storedRateState] using hpitch
  | some q =>
    rw [storedRateState, setPitch_pitch, hpitch]
    obtain rfl | hpq := eq_or_ne p q
    · simp only [eq_recordIdx_iff hla, true_and]
    · simp [hpq, hpq.symm]

theorem moves_recordRate (hla : s.eng.la.toNat < 32) (k : TrackId) (live : Option PairId) :
    moves live.toList.length ((recordedState s k).setProg (live.toList.map fun r => .recordRate r s.ctl.bank)) =
      .next ((storedRateState s k live).setProg []) := by
  cases live with
  | none => rfl
  | some p =>
    refine moves_cons (n := 0) (t := (storedRateState s k (some p)).setProg [])
      ((atRecordIdx_of_lt _ _ ?_).trans ?_)
    · rw [setProg_ctl, recordedState_eq]
      exact hla
    · rw [storedRateState, recordedState_eq]
      rfl

/-- Settles O40: the flag at the captured lookahead, and there the rate of a live track. -/
theorem armedTrigRecordsAtTheLookahead : Obligations.ArmedTrigRecordsAtTheLookahead := by
  intro a k s ha hrec hprog hla hstb
  refine ⟨(storedRateState s k s.cfg.trkLive[k]).setProg [], ?_, ?_⟩
  · rw [Nat.add_comm, perform_trig_armed ha hrec hprog hla, moves_recordRate hla]
  have hframe := (storedRateState_eq s k s.cfg.trkLive[k]).trans
    (congrArg (fun u : State => { u with pat := (storedRateState s k s.cfg.trkLive[k]).pat }) (recordedState_eq s k))
  refine ⟨?_, ?_, rfl, ?_, ?_, ?_, ?_, fun b => ?_, fun j x => ?_, fun p x => ?_⟩
  · rw [hframe]; rfl
  · rw [hframe]; rfl
  · rw [hframe]; rfl
  · rw [hframe]; rfl
  · rw [hframe]; exact (congrArg (s.tickPend || ·) hstb).trans (Bool.or_false _)
  · rw [hframe]; rfl
  · rw [hframe]; rfl
  · exact (storedRateState_flag s k _ j x).trans (recordedState_flag hla k j x)
  · exact storedRateState_pitch hla k _ p x

/-! ### `ERASE` (R62, R208) -/

theorem mem_steps32 : ∀ i : Step32, i ∈ steps32 := by decide

theorem mem_tracks4 : ∀ k : TrackId, k ∈ tracks4 := by decide

/-- The window holds the indices of the bank's steps. -/
theorem inWindow_iff {b : BankId} {x : PatIx} : inWindow b x ↔ ∃ i : Step32, patIdx i b = x := by
  simp only [Fin.ext_iff, patIdx_val, inWindow]
  constructor
  · rintro ⟨hlo, hhi⟩
    refine ⟨BitVec.ofNat 5 (x.val - windowFirst b), ?_⟩
    rw [BitVec.toNat_ofNat, Nat.mod_eq_of_lt (by omega)]
    omega
  · rintro ⟨i, hi⟩
    have := i.isLt
    omega

/-- The window, bank by bank. -/
theorem inWindow_iff_bank {b : BankId} {x : PatIx} : inWindow b x ↔
    (b = 0 ∧ x.val ≤ 31) ∨ (b = 1 ∧ 31 ≤ x.val ∧ x.val ≤ 62) ∨
      (b = 2 ∧ 63 ≤ x.val ∧ x.val ≤ 94) ∨ (b = 3 ∧ 95 ≤ x.val ∧ x.val ≤ 126) := by
  have hbank : (b = 0 ∨ b = 1) ∨ b = 2 ∨ b = 3 := by revert b; decide
  obtain (rfl | rfl) | rfl | rfl := hbank <;> simp [inWindow, windowFirst]

/-- The 128 micro-operations of `ERASE` that clear (R208). -/
def eraseClears (b : BankId) : List MicroOp :=
  steps32.flatMap fun i => tracks4.map fun k => .clearFlag k (patIdx i b)

theorem mem_eraseClears {b : BankId} {u : MicroOp} :
    u ∈ eraseClears b ↔ ∃ k x, inWindow b x ∧ u = .clearFlag k x := by
  simp only [eraseClears, List.mem_flatMap, List.mem_map, inWindow_iff, mem_steps32, mem_tracks4, true_and]
  constructor
  · rintro ⟨i, k, rfl⟩
    exact ⟨k, _, ⟨i, rfl⟩, rfl⟩
  · rintro ⟨k, _, ⟨i, rfl⟩, rfl⟩
    exact ⟨i, k, rfl⟩

theorem eraseClears_length (b : BankId) : (eraseClears b).length = 128 := by
  simp [eraseClears, tracks4, steps32, Function.comp_def]

/-- Settles O48: the clearing micro-operations write 0 to the flags of the window, the last one the transport. -/
theorem eraseClearsTheWindow : Obligations.EraseClearsTheWindow := by
  intro s hprog window
  have hwindow (x : PatIx) : window x ↔ inWindow s.ctl.bank x := inWindow_iff_bank.symm
  obtain ⟨t, hmoves, ⟨pat, rfl⟩, hcleared, hkept⟩ := moves_patternWrites (s := s) (us := eraseClears s.ctl.bank)
    (fun u hu => by obtain ⟨k, x, -, rfl⟩ := mem_eraseClears.mp hu; trivial)
    (image := fun _ => 0)
    (fun u hu e _ => by
      obtain ⟨k, x, -, rfl⟩ := mem_eraseClears.mp hu
      cases e <;> rfl) [.eraseDone]
  have hrun : perform .erase 128 s =
      .next (((State.setRun { s with pat := pat } true).setRec false).setProg []) := by
    rw [perform_eq_moves rfl hprog (us := eraseClears s.ctl.bank ++ [.eraseDone]) rfl (by simp)]
    rw [eraseClears_length] at hmoves
    exact (moves_of_next (n := 1) hmoves).trans (moves_cons (n := 0) rfl)
  refine ⟨_, hrun, rfl, fun k x hx => ?_, fun k x hx => ?_, fun p x => ?_, rfl, rfl, rfl, rfl, fun a => rfl⟩
  · have hmem := mem_eraseClears.mpr ⟨k, x, (hwindow x).mp hx, rfl⟩
    exact flag_of_patValue (hcleared _ hmem (.flag k x) rfl)
  · refine flag_of_patValue (hkept (.flag k x) fun u hu htouch => ?_)
    obtain ⟨l, y, hy, rfl⟩ := mem_eraseClears.mp hu
    obtain ⟨rfl, rfl⟩ := PatElem.flag.inj htouch
    exact hx ((hwindow x).mpr hy)
  · refine hkept (.pitch p x) fun u hu htouch => ?_
    obtain ⟨l, y, -, rfl⟩ := mem_eraseClears.mp hu
    cases htouch

/-! ### How the commands that run over many micro-operations start (R345) -/

/-- A command's first micro-operation runs in its own step, and what follows it waits in front of `prog`. -/
theorem exec_of_head {i : Instr} (hi : issues i = true) {u : MicroOp} {us : List MicroOp}
    (hus : commandOps s i = u :: us) (hu : runMicro u (s.setProg (us ++ s.prog)) = .next t) : exec i s = .next t := by
  rw [exec_eq_issue hi, hus]
  exact hu

theorem saveOps_eq (b : BankId) (n : Fin 4) (base : Nat) : saveOps b n base =
    .packFlags (patIdx (evenStep 0) b) (patIdx (oddStep 0) b) base :: (saveOps b n base).tail := rfl

theorem loadOps_eq (b : BankId) (base : Nat) : loadOps b base =
    .clearFlag 0 (patIdx 0 b) :: (loadOps b base).tail := rfl

theorem eraseOps_eq (b : BankId) : eraseOps b = .clearFlag 0 (patIdx 0 b) :: (eraseOps b).tail := rfl

theorem saveOps_length (b : BankId) (n : Fin 4) (base : Nat) : (saveOps b n base).length = 84 := by
  simp [saveOps, flagOps, pitchOps]

theorem loadOps_length (b : BankId) (base : Nat) : (loadOps b base).length = 272 := by
  simp [loadOps, clearOps, flagOps, pitchOps, steps32, tracks4, Function.comp_def]

theorem eraseOps_length (b : BankId) : (eraseOps b).length = 129 := by
  simp [eraseOps, steps32, tracks4, Function.comp_def]

theorem exec_save_of_le {a : U8} (h : 4 ≤ a.toNat) (s : State) : exec (.save a) s = .next s := by
  simp only [exec, execSave, fourArg_of_le h]

theorem exec_load_of_le {a : U8} (h : 4 ≤ a.toNat) (s : State) : exec (.load a) s = .next s := by
  simp only [exec, execLoad, fourArg_of_le h]

theorem commandOps_save {a : U8} {n : Fin 4} (h : a.toNat = n.val) :
    commandOps s (.save a) = saveOps s.ctl.bank n (slotBase s.cfg n) := by
  simp only [commandOps, fourArg_of_toNat h, Option.elim]

theorem commandOps_load {a : U8} {n : Fin 4} (h : a.toNat = n.val) :
    commandOps s (.load a) = loadOps s.ctl.bank (slotBase s.cfg n) := by
  simp only [commandOps, fourArg_of_toNat h, Option.elim]

/-- Settles O55: each command by its first micro-operation. -/
theorem codecCommandsStart : Obligations.CodecCommandsStart := by
  intro s hwf
  refine ⟨fun a => ?_, fun a => ?_, ?_, ?_⟩
  · by_cases ha : 4 ≤ a.toNat
    · exact ⟨s, exec_save_of_le ha s, fun _ => rfl, fun h => absurd ha (by omega)⟩
    have hexec := exec_of_head (s := s) (i := .save a) rfl
      ((commandOps_save (n := ⟨a.toNat, by omega⟩) rfl).trans (saveOps_eq ..))
      (nvWrite_of_lt _ (record_bounds hwf _ (j := 0) (by decide)).2)
    exact ⟨_, hexec, fun h => absurd h ha, fun _ => by simp [saveOps_length]⟩
  · by_cases ha : 4 ≤ a.toNat
    · exact ⟨s, exec_load_of_le ha s, fun _ => rfl, fun h => absurd ha (by omega)⟩
    have hexec := exec_of_head (s := s) (i := .load a) rfl
      ((commandOps_load (n := ⟨a.toNat, by omega⟩) rfl).trans (loadOps_eq ..)) rfl
    exact ⟨_, hexec, fun h => absurd h ha, fun _ => by simp [loadOps_length]⟩
  · exact ⟨_, exec_of_head (i := .erase) rfl (eraseOps_eq _) rfl, by simp [eraseOps_length]⟩
  · exact ⟨_, exec_of_head (i := .boot) rfl rfl (withNvByte_of_lt _ (header_lt_nvSize hwf (by decide))), rfl⟩

end Sys2Proof.Machine

/-! PROOFS. `SAVE`: the bytes of the codec, the stores of a list of micro-operations, and the region a whole `SAVE`
leaves (R235, R236, R238, R241). -/

namespace Sys2Proof.Machine

variable {s t : State}

/-! ### The packed and the compressed byte (R235 to R237) -/

theorem packed_bits : ∀ e0 e1 e2 e3 o0 o1 o2 o3 : Bool,
    let x := BitVec.ofNat 8 ((e0.toNat + 2 * e1.toNat + 4 * e2.toNat + 8 * e3.toNat) +
      16 * (o0.toNat + 2 * o1.toNat + 4 * o2.toNat + 8 * o3.toNat))
    (x.getLsbD 0 = e0 ∧ x.getLsbD 1 = e1 ∧ x.getLsbD 2 = e2 ∧ x.getLsbD 3 = e3) ∧
      x.getLsbD 4 = o0 ∧ x.getLsbD 5 = o1 ∧ x.getLsbD 6 = o2 ∧ x.getLsbD 7 = o3 := by decide

theorem packByte_even (flags : Vector (Vector Bool 128) 4) (even odd : PatIx) (k : TrackId) :
    (packByte flags even odd).getLsbD k.val = (flags[k])[even] := by
  obtain ⟨⟨h0, h1, h2, h3⟩, -⟩ := packed_bits (flags[0])[even] (flags[1])[even] (flags[2])[even] (flags[3])[even]
    (flags[0])[odd] (flags[1])[odd] (flags[2])[odd] (flags[3])[odd]
  fin_cases k
  exacts [h0, h1, h2, h3]

theorem packByte_odd (flags : Vector (Vector Bool 128) 4) (even odd : PatIx) (k : TrackId) :
    (packByte flags even odd).getLsbD (4 + k.val) = (flags[k])[odd] := by
  obtain ⟨-, h0, h1, h2, h3⟩ := packed_bits (flags[0])[even] (flags[1])[even] (flags[2])[even] (flags[3])[even]
    (flags[0])[odd] (flags[1])[odd] (flags[2])[odd] (flags[3])[odd]
  fin_cases k
  exacts [h0, h1, h2, h3]

theorem toInt_comp (shift : Nat) (x : S16) : (comp shift x).toInt = clamp (x.toInt / 2 ^ shift) (-128) 127 := by
  rw [comp, asr]
  refine BitVec.toInt_ofInt_eq_self (by decide) ?_ ?_ <;> unfold clamp <;> split <;> omega

theorem toInt_expand {shift : Nat} (h : shift < 8) (b : U8) : (expand shift b).toInt = b.toInt * 2 ^ shift := by
  have hlo : (1 : Int) ≤ 2 ^ shift := one_le_pow₀ (by decide)
  have hhi : (2 : Int) ^ shift ≤ 2 ^ 7 := pow_le_pow_right₀ (by decide) (by omega)
  have hb := BitVec.toInt_lt (x := b)
  have hb' := BitVec.le_toInt (x := b)
  rw [expand, BitVec.shiftLeft_eq_mul_twoPow, BitVec.toInt_mul, BitVec.toInt_signExtend_of_le (by decide),
    BitVec.toInt_twoPow, if_neg (by omega), if_neg (by omega)]
  apply Int.bmod_eq_of_le_mul_two
  · norm_num at hb hb' hhi ⊢
    nlinarith
  · norm_num at hb hb' hhi ⊢
    nlinarith

/-! ### Stores to the persisted region (R76) -/

/-- A micro-operation that only stores a byte, within the region. -/
def WritesRegion (c : Cfg) : MicroOp → Prop
  | .packFlags _ _ a | .packPitch _ _ a | .nvFill a _ => a < nvSize c
  | _ => False

/-- The byte it stores (R235, R236, R246). -/
def storedByte (s : State) : MicroOp → U8
  | .packFlags even odd _ => packByte s.pat.flags even odd
  | .packPitch p x _ => comp s.cfg.pitchShift (s.pitch p x)
  | .nvFill _ b => b
  | _ => 0

/-- Only the persisted region differs, and it is canonical. -/
def sameRegionAside (s t : State) : Prop := ∃ m, Memory.wf m = true ∧ t = { s with nv := m }

theorem runMicro_of_writesRegion {u : MicroOp} (hu : WritesRegion s.cfg u) : ∃ a, u.storeAddr = some a ∧
    ∀ m q, runMicro u ((s.setNv m).setProg q) = .next ((s.setNv (Memory.write m a (storedByte s u))).setProg q) := by
  cases u <;> simp only [WritesRegion] at hu
  case packFlags a | packPitch a | nvFill a _ => exact ⟨a, rfl, fun m q => nvWrite_of_lt _ hu⟩

/-- A list of such micro-operations that write one image, as `moves_writes` has it. -/
theorem moves_regionWrites {us : List MicroOp} {image : Nat → U8} (hus : ∀ u ∈ us, WritesRegion s.cfg u)
    (himage : ∀ u ∈ us, ∀ a, u.storeAddr = some a → storedByte s u = image a) (p : List MicroOp)
    (hcan : Memory.wf s.nv = true) : ∃ m, moves us.length (s.setProg (us ++ p)) = .next ((s.setNv m).setProg p) ∧
      Memory.wf m = true ∧ (∀ u ∈ us, ∀ a, u.storeAddr = some a → Memory.read m a = image a) ∧
      ∀ a, (∀ u ∈ us, u.storeAddr ≠ some a) → Memory.read m a = Memory.read s.nv a := by
  obtain ⟨t, hmoves, ⟨m, hm, rfl⟩, hwrite, hleave⟩ := moves_writes (s := s) (us := us) (keeps := sameRegionAside s)
    (get := fun t a => Memory.read t.nv a) (touches := fun u a => u.storeAddr = some a) (image := image)
    (fun u hu t q ht => by
      obtain ⟨m, hm, rfl⟩ := ht
      obtain ⟨a, ha, hrun⟩ := runMicro_of_writesRegion (hus u hu)
      refine ⟨_, hrun m q, ⟨_, Memory.write_wf a _ hm, rfl⟩, fun b hb => ?_, fun b hb => ?_⟩
      · obtain rfl := Option.some.inj (ha.symm.trans hb)
        exact (Memory.read_write_same a _ hm).trans (himage u hu a ha)
      · exact Memory.read_write_other _ fun hab => hb (hab ▸ ha)) p ⟨s.nv, hcan, rfl⟩
  exact ⟨m, hmoves, hm, hwrite, hleave⟩

/-! ### The record (R235, R238) -/

/-- Byte j of the record of the current window. -/
def recordByte (s : State) (j : Nat) : U8 :=
  if j < 16 then packByte s.pat.flags (patIdx (evenStep j) s.ctl.bank) (patIdx (oddStep j) s.ctl.bank)
  else if j < 48 then comp s.cfg.pitchShift (s.pitch 0 (patIdx (BitVec.ofNat 5 (j - 16)) s.ctl.bank))
  else comp s.cfg.pitchShift (s.pitch 1 (patIdx (BitVec.ofNat 5 (j - 48)) s.ctl.bank))

/-- The 80 stores of `SAVE` to the record. -/
def recordOps (b : BankId) (base : Nat) : List MicroOp :=
  flagOps .packFlags b base ++ pitchOps .packPitch 0 b (base + 16) ++ pitchOps .packPitch 1 b (base + 48)

theorem recordOps_length (b : BankId) (base : Nat) : (recordOps b base).length = 80 := by
  simp [recordOps, flagOps, pitchOps]

/-- One store for each byte of the record, and that byte. -/
theorem mem_recordOps {base : Nat} {u : MicroOp} (hu : u ∈ recordOps s.ctl.bank base) :
    ∃ j < 80, u.storeAddr = some (base + j) ∧ storedByte s u = recordByte s j ∧
      (base + j < nvSize s.cfg → WritesRegion s.cfg u) := by
  simp only [recordOps, List.mem_append, mem_flagOps, mem_pitchOps] at hu
  obtain (⟨j, hj, rfl⟩ | ⟨i, hi, rfl⟩) | ⟨i, hi, rfl⟩ := hu
  · exact ⟨j, by omega, rfl, (if_pos hj).symm, id⟩
  · refine ⟨16 + i, by omega, congrArg some (Nat.add_assoc ..), ?_, by rw [← Nat.add_assoc]; exact id⟩
    rw [recordByte, if_neg (by omega), if_pos (by omega), Nat.add_sub_cancel_left]
    rfl
  · refine ⟨48 + i, by omega, congrArg some (Nat.add_assoc ..), ?_, by rw [← Nat.add_assoc]; exact id⟩
    rw [recordByte, if_neg (by omega), if_neg (by omega), Nat.add_sub_cancel_left]
    rfl

theorem exists_recordOp (b : BankId) (base : Nat) {j : Nat} (hj : j < 80) :
    ∃ u ∈ recordOps b base, u.storeAddr = some (base + j) := by
  simp only [recordOps, List.mem_append]
  by_cases hflags : j < 16
  · exact ⟨_, .inl (.inl (mem_flagOps.mpr ⟨j, hflags, rfl⟩)), rfl⟩
  by_cases hpitch : j < 48
  · exact ⟨_, .inl (.inr (mem_pitchOps.mpr ⟨j - 16, by omega, rfl⟩)), congrArg some (by omega)⟩
  · exact ⟨_, .inr (mem_pitchOps.mpr ⟨j - 48, by omega, rfl⟩), congrArg some (by omega)⟩

/-- The byte a `SAVE` of slot n leaves at address a. -/
def savedByte (s : State) (n : Fin 4) (a : Nat) : U8 :=
  if a = 2 then (bankOf n).setWidth 8
  else if a = 5 then s.ctl.chan
  else if a = 4 then s.ctl.bank.setWidth 8
  else if a = 3 then settingsByte ((Memory.read s.nv 3).getLsbD 0) s.ctl.dir s.ctl.mix
  else if slotBase s.cfg n ≤ a ∧ a < slotBase s.cfg n + 80 then recordByte s (a - slotBase s.cfg n)
  else Memory.read s.nv a

/-- The region after the header bytes of a `SAVE` (R238 u82 to u85). -/
def saveHeader (s : State) (n : Fin 4) (m : Memory) : Memory :=
  Memory.write (Memory.write (Memory.write (Memory.write m 3
    (settingsByte ((Memory.read m 3).getLsbD 0) s.ctl.dir s.ctl.mix)) 4 (s.ctl.bank.setWidth 8)) 5 s.ctl.chan) 2
    ((bankOf n).setWidth 8)

theorem moves_saveHeader (hwf : s.cfg.wf = true) (n : Fin 4) (m : Memory) :
    moves 5 ((s.setNv m).setProg [.readSettings, .writeBank, .writeChan, .writeSlot (bankOf n)]) =
      .next (((s.setNv (saveHeader s n m)).setLastSlot (bankOf n)).setProg []) := by
  have hread (m q) : runMicro .readSettings ((s.setNv m).setProg q) =
      .next ((s.setNv m).setProg (.writeSettings (Memory.read m 3) :: q)) :=
    withNvByte_of_lt _ (header_lt_nvSize hwf (by decide))
  have hsettings (m q) (x : U8) : runMicro (.writeSettings x) ((s.setNv m).setProg q) =
      .next ((s.setNv (Memory.write m 3 (settingsByte (x.getLsbD 0) s.ctl.dir s.ctl.mix))).setProg q) :=
    nvWrite_of_lt _ (header_lt_nvSize hwf (by decide))
  have hbank (m q) : runMicro .writeBank ((s.setNv m).setProg q) =
      .next ((s.setNv (Memory.write m 4 (s.ctl.bank.setWidth 8))).setProg q) :=
    nvWrite_of_lt _ (header_lt_nvSize hwf (by decide))
  have hchan (m q) : runMicro .writeChan ((s.setNv m).setProg q) =
      .next ((s.setNv (Memory.write m 5 s.ctl.chan)).setProg q) := nvWrite_of_lt _ (header_lt_nvSize hwf (by decide))
  have hslot (m q) : runMicro (.writeSlot (bankOf n)) ((s.setNv m).setProg q) =
      .next (((s.setNv (Memory.write m 2 ((bankOf n).setWidth 8))).setLastSlot (bankOf n)).setProg q) :=
    nvWrite_of_lt _ (header_lt_nvSize hwf (by decide))
  exact (moves_cons (hread ..)).trans ((moves_cons (hsettings ..)).trans ((moves_cons (hbank ..)).trans
    ((moves_cons (hchan ..)).trans (moves_cons (hslot ..)))))

theorem saveHeader_wf (n : Fin 4) {m : Memory} (hm : Memory.wf m = true) : Memory.wf (saveHeader s n m) = true :=
  Memory.write_wf _ _ (Memory.write_wf _ _ (Memory.write_wf _ _ (Memory.write_wf _ _ hm)))

theorem read_write (a : Nat) (v : U8) {m : Memory} (hm : Memory.wf m = true) (b : Nat) :
    Memory.read (Memory.write m a v) b = if b = a then v else Memory.read m b := by
  split
  next hab => rw [hab, Memory.read_write_same a v hm]
  next hab => exact Memory.read_write_other v hab

theorem read_saveHeader (n : Fin 4) {m : Memory} (hm : Memory.wf m = true) (b : Nat) :
    Memory.read (saveHeader s n m) b =
      if b = 2 then (bankOf n).setWidth 8
      else if b = 5 then s.ctl.chan
      else if b = 4 then s.ctl.bank.setWidth 8
      else if b = 3 then settingsByte ((Memory.read m 3).getLsbD 0) s.ctl.dir s.ctl.mix
      else Memory.read m b := by
  have h3 := Memory.write_wf 3 (settingsByte ((Memory.read m 3).getLsbD 0) s.ctl.dir s.ctl.mix) hm
  have h4 := Memory.write_wf 4 (s.ctl.bank.setWidth 8) h3
  have h5 := Memory.write_wf 5 s.ctl.chan h4
  rw [saveHeader, read_write _ _ h5, read_write _ _ h4, read_write _ _ h3, read_write _ _ hm]

/-- A whole `SAVE` with no tick between: the region it leaves, and the slot it remembers. -/
theorem perform_save {a : U8} {n : Fin 4} (hwf : s.cfg.wf = true) (hcan : Memory.wf s.nv = true)
    (hprog : s.prog = []) (ha : a.toNat = n.val) : ∃ m, Memory.wf m = true ∧
      perform (.save a) 84 s = .next (((s.setNv m).setLastSlot (bankOf n)).setProg []) ∧
      ∀ b, Memory.read m b = savedByte s n b := by
  obtain ⟨hhdr, -⟩ := wf_layout hwf
  have hbase : 6 ≤ slotBase s.cfg n := hhdr.trans (Nat.le_add_right ..)
  obtain ⟨m, hmoves, hm, hwrite, hleave⟩ := moves_regionWrites (s := s)
    (us := recordOps s.ctl.bank (slotBase s.cfg n)) (image := fun b => recordByte s (b - slotBase s.cfg n))
    (fun u hu => by
      obtain ⟨j, hj, -, -, hregion⟩ := mem_recordOps hu
      exact hregion (record_bounds hwf n hj).2)
    (fun u hu b hb => by
      obtain ⟨j, -, haddr, hbyte, -⟩ := mem_recordOps hu
      obtain rfl := Option.some.inj (haddr.symm.trans hb)
      rw [hbyte, Nat.add_sub_cancel_left])
    [.readSettings, .writeBank, .writeChan, .writeSlot (bankOf n)] hcan
  have hrecord {b : Nat} (hb : slotBase s.cfg n ≤ b ∧ b < slotBase s.cfg n + 80) :
      Memory.read m b = recordByte s (b - slotBase s.cfg n) := by
    obtain ⟨u, hu, haddr⟩ := exists_recordOp s.ctl.bank (slotBase s.cfg n) (j := b - slotBase s.cfg n) (by omega)
    exact hwrite u hu b (haddr.trans (congrArg some (by omega)))
  have hother {b : Nat} (hb : ¬ (slotBase s.cfg n ≤ b ∧ b < slotBase s.cfg n + 80)) :
      Memory.read m b = Memory.read s.nv b := hleave b fun u hu haddr => by
    obtain ⟨j, hj, haddr', -⟩ := mem_recordOps hu
    have := Option.some.inj (haddr'.symm.trans haddr)
    omega
  refine ⟨saveHeader s n m, saveHeader_wf n hm, ?_, fun b => ?_⟩
  · rw [perform_eq_moves rfl hprog (commandOps_save ha) (by simp [saveOps_length])]
    rw [recordOps_length] at hmoves
    exact (moves_of_next (n := 5) hmoves).trans (moves_saveHeader hwf n m)
  · rw [read_saveHeader n hm, savedByte, hother (b := 3) (by omega)]
    by_cases hb : slotBase s.cfg n ≤ b ∧ b < slotBase s.cfg n + 80
    · rw [hrecord hb, if_pos hb]
    · rw [hother hb, if_neg hb]

/-! ### What a `SAVE` leaves, byte by byte (R235, R236, R238, R241) -/

/-- Step i of the bank, from the index it has. -/
theorem eq_patIdx {b : BankId} {x : PatIx} {i : Nat} (hi : i < 32) (hx : x.val = windowFirst b + i) :
    x = patIdx (BitVec.ofNat 5 i) b := by
  rw [Fin.ext_iff, patIdx_val, BitVec.toNat_ofNat, Nat.mod_eq_of_lt hi]
  omega

theorem recordByte_flags {j : Nat} (hj : j < 16) : recordByte s j =
    packByte s.pat.flags (patIdx (evenStep j) s.ctl.bank) (patIdx (oddStep j) s.ctl.bank) := if_pos hj

theorem recordByte_pitch (p : PairId) {i : Nat} (hi : i < 32) : recordByte s (16 + 32 * p.val + i) =
    comp s.cfg.pitchShift (s.pitch p (patIdx (BitVec.ofNat 5 i) s.ctl.bank)) := by
  match p with
  | 0 =>
    rw [recordByte, if_neg (by simp), if_pos (by simp; omega)]
    simp
  | 1 =>
    rw [recordByte, if_neg (by simp; omega), if_neg (by simp)]
    simp

theorem savedByte_record (hwf : s.cfg.wf = true) (n : Fin 4) {j : Nat} (hj : j < 80) :
    savedByte s n (slotBase s.cfg n + j) = recordByte s j := by
  have hhdr := (wf_layout hwf).1
  have hlo := (record_bounds hwf n hj).1
  rw [savedByte, if_neg (by omega), if_neg (by omega), if_neg (by omega), if_neg (by omega), if_pos (by omega),
    Nat.add_sub_cancel_left]

theorem savedByte_other {n : Fin 4} {b : Nat} (hb : b < slotBase s.cfg n ∨ slotBase s.cfg n + 80 ≤ b) (h2 : b ≠ 2)
    (h3 : b ≠ 3) (h4 : b ≠ 4) (h5 : b ≠ 5) : savedByte s n b = Memory.read s.nv b := by
  rw [savedByte, if_neg h2, if_neg h5, if_neg h4, if_neg h3, if_neg (by omega)]

theorem toNat_settingsByte : ∀ r d m : Bool,
    (settingsByte r d m).toNat = r.toNat + 2 * d.toNat + 4 * m.toNat := by decide

theorem toNat_bankByte : ∀ b : BankId, (b.setWidth 8).toNat = b.toNat := by decide

theorem toNat_slotByte : ∀ n : Fin 4, ((bankOf n).setWidth 8).toNat = n.val := by decide

/-- Settles O49: every byte the `SAVE` leaves is the one `savedByte` names. -/
theorem saveWritesTheRecord : Obligations.SaveWritesTheRecord := by
  refine ⟨fun a s h => exec_save_of_le h s, fun a n s hwf hcan hprog ha => ?_⟩
  intro base
  obtain ⟨m, -, hrun, hread⟩ := perform_save hwf hcan hprog ha
  have hrecord {j : Nat} (hj : j < 80) : Memory.read m (base + j) = recordByte s j :=
    (hread _).trans (savedByte_record hwf n hj)
  refine ⟨_, hrun, rfl, fun j k x => ⟨fun hx => ?_, fun hx => ?_⟩, fun p i x hx => ?_, ?_, ?_, hread 5, ?_,
    fun b hb h2 h3 h4 h5 => (hread b).trans (savedByte_other hb h2 h3 h4 h5), rfl, rfl, rfl, rfl, rfl⟩
  · obtain rfl := eq_patIdx (by omega) hx
    exact (congrArg (·.getLsbD k.val) ((hrecord (by omega)).trans (recordByte_flags j.isLt))).trans
      (packByte_even _ _ _ k)
  · obtain rfl := eq_patIdx (i := 2 * j.val + 1) (by omega) (by omega)
    exact (congrArg (·.getLsbD (4 + k.val)) ((hrecord (by omega)).trans (recordByte_flags j.isLt))).trans
      (packByte_odd _ _ _ k)
  · obtain rfl := eq_patIdx i.isLt hx
    have hbyte := (hrecord (j := 16 + 32 * p.val + i.val) (by omega)).trans (recordByte_pitch p i.isLt)
    rw [← Nat.add_assoc, ← Nat.add_assoc] at hbyte
    exact (congrArg BitVec.toInt hbyte).trans (toInt_comp ..)
  · exact (congrArg BitVec.toNat (hread 3)).trans (toNat_settingsByte ..)
  · exact (congrArg BitVec.toNat (hread 4)).trans (toNat_bankByte _)
  · exact (congrArg BitVec.toNat (hread 2)).trans (toNat_slotByte n)

/-- Settles O50: the second `SAVE` finds at every address the byte it stores, the run bit too. -/
theorem savingTwiceStoresTheSameBytes : Obligations.SavingTwiceStoresTheSameBytes := by
  intro a n s hwf hcan hprog ha
  obtain ⟨m, hm, hrun, hread⟩ := perform_save hwf hcan hprog ha
  obtain ⟨m', hm', hrun', hread'⟩ :=
    perform_save (s := ((s.setNv m).setLastSlot (bankOf n)).setProg []) hwf hm rfl ha
  refine ⟨_, _, hrun, hrun', Memory.eq_of_read hm' hm fun b => (hread' b).trans ?_⟩
  have hbit : (Memory.read m 3).getLsbD 0 = (Memory.read s.nv 3).getLsbD 0 := by
    rw [hread 3]
    exact settingsByte_bit0 ..
  calc savedByte (((s.setNv m).setLastSlot (bankOf n)).setProg []) n b
      = if b = 2 then (bankOf n).setWidth 8
        else if b = 5 then s.ctl.chan
        else if b = 4 then s.ctl.bank.setWidth 8
        else if b = 3 then settingsByte ((Memory.read m 3).getLsbD 0) s.ctl.dir s.ctl.mix
        else if slotBase s.cfg n ≤ b ∧ b < slotBase s.cfg n + 80 then recordByte s (b - slotBase s.cfg n)
        else Memory.read m b := rfl
    _ = savedByte s n b := by
        rw [hbit, hread b, savedByte]
        split_ifs <;> rfl
    _ = Memory.read m b := (hread b).symm

end Sys2Proof.Machine

/-! PROOFS. `LOAD`, and `SAVE` followed by `LOAD`: the window read back from its record (R237, R239, R240). -/

namespace Sys2Proof.Machine

variable {s t : State}

/-! ### The micro-operations of `LOAD` (R239) -/

/-- The 192 micro-operations that clear the window. -/
def loadClears (b : BankId) : List MicroOp := steps32.flatMap fun i => clearOps (patIdx i b)

/-- The 80 micro-operations that read the record. -/
def loadUnpacks (b : BankId) (base : Nat) : List MicroOp :=
  flagOps .unpackFlags b base ++ pitchOps .unpackPitch 0 b (base + 16) ++ pitchOps .unpackPitch 1 b (base + 48)

theorem loadOps_split (b : BankId) (base : Nat) : loadOps b base = loadClears b ++ loadUnpacks b base := by
  simp only [loadOps, loadClears, loadUnpacks, List.append_assoc]

theorem loadClears_length (b : BankId) : (loadClears b).length = 192 := by
  simp [loadClears, clearOps, tracks4, steps32, Function.comp_def]

theorem loadUnpacks_length (b : BankId) (base : Nat) : (loadUnpacks b base).length = 80 := by
  simp [loadUnpacks, flagOps, pitchOps]

/-- The index an element has in its array. -/
def elemIdx : PatElem → PatIx
  | .flag _ x | .pitch _ x => x

/-- What the record at `base` holds for an element of the window: bit k or 4+k of the packed byte of its two steps, or
its compressed pitch value shifted back (R235, R237). -/
def recordElem (s : State) (base : Nat) : PatElem → U16
  | .flag k x =>
    let i := x.val - windowFirst s.ctl.bank
    BitVec.ofNat 16 ((Memory.read s.nv (base + i / 2)).getLsbD (4 * (i % 2) + k.val)).toNat
  | .pitch p x =>
    expand s.cfg.pitchShift (Memory.read s.nv (base + 16 + 32 * p.val + (x.val - windowFirst s.ctl.bank)))

theorem patIdx_inWindow (i : Step32) (b : BankId) : inWindow b (patIdx i b) := inWindow_iff.mpr ⟨i, rfl⟩

/-- The position of step i within the window. -/
theorem patIdx_sub {i : Nat} (hi : i < 32) (b : BankId) :
    (patIdx (BitVec.ofNat 5 i) b).val - windowFirst b = i := by
  rw [patIdx_val, BitVec.toNat_ofNat, Nat.mod_eq_of_lt hi, Nat.add_sub_cancel]

theorem even_ne_odd {j : Nat} (hj : j < 16) (b : BankId) : patIdx (evenStep j) b ≠ patIdx (oddStep j) b := by
  intro h
  have := congrArg (·.val - windowFirst b) h
  simp only [evenStep, oddStep, patIdx_sub (i := 2 * j) (by omega), patIdx_sub (i := 2 * j + 1) (by omega)] at this
  omega

theorem mem_loadClears {b : BankId} {u : MicroOp} (hu : u ∈ loadClears b) :
    WritesPattern s.cfg u ∧ ∀ e, patTarget u e → inWindow b (elemIdx e) ∧ patResult s u e = 0 := by
  simp only [loadClears, clearOps, List.mem_flatMap, List.mem_append, List.mem_map, List.mem_cons, List.not_mem_nil,
    or_false] at hu
  obtain ⟨i, -, ⟨k, -, rfl⟩ | rfl | rfl⟩ := hu
  · exact ⟨trivial, by rintro _ rfl; exact ⟨patIdx_inWindow i b, rfl⟩⟩
  · exact ⟨trivial, by rintro _ rfl; exact ⟨patIdx_inWindow i b, rfl⟩⟩
  · exact ⟨trivial, by rintro _ rfl; exact ⟨patIdx_inWindow i b, rfl⟩⟩

theorem patResult_unpackFlags_even {even odd : PatIx} (a : Nat) (k : TrackId) :
    patResult s (.unpackFlags even odd a) (.flag k even) =
      BitVec.ofNat 16 ((Memory.read s.nv a).getLsbD k.val).toNat := by
  rw [patResult, if_pos rfl]

theorem patResult_unpackFlags_odd {even odd : PatIx} (hne : even ≠ odd) (a : Nat) (k : TrackId) :
    patResult s (.unpackFlags even odd a) (.flag k odd) =
      BitVec.ofNat 16 ((Memory.read s.nv a).getLsbD (4 + k.val)).toNat := by
  rw [patResult, if_neg hne.symm]

theorem recordElem_even {base j : Nat} (hj : j < 16) (k : TrackId) :
    recordElem s base (.flag k (patIdx (evenStep j) s.ctl.bank)) =
      BitVec.ofNat 16 ((Memory.read s.nv (base + j)).getLsbD k.val).toNat := by
  simp only [recordElem, evenStep, patIdx_sub (i := 2 * j) (by omega)]
  rw [show 2 * j / 2 = j by omega, show 4 * (2 * j % 2) + k.val = k.val by omega]

theorem recordElem_odd {base j : Nat} (hj : j < 16) (k : TrackId) :
    recordElem s base (.flag k (patIdx (oddStep j) s.ctl.bank)) =
      BitVec.ofNat 16 ((Memory.read s.nv (base + j)).getLsbD (4 + k.val)).toNat := by
  simp only [recordElem, oddStep, patIdx_sub (i := 2 * j + 1) (by omega)]
  rw [show (2 * j + 1) / 2 = j by omega, show 4 * ((2 * j + 1) % 2) + k.val = 4 + k.val by omega]

theorem recordElem_pitch {base i : Nat} (hi : i < 32) (p : PairId) :
    recordElem s base (.pitch p (patIdx (BitVec.ofNat 5 i) s.ctl.bank)) =
      expand s.cfg.pitchShift (Memory.read s.nv (base + 16 + 32 * p.val + i)) := by
  rw [recordElem, patIdx_sub hi]

theorem mem_loadUnpacks (hwf : s.cfg.wf = true) {n : Fin 4} {u : MicroOp}
    (hu : u ∈ loadUnpacks s.ctl.bank (slotBase s.cfg n)) : WritesPattern s.cfg u ∧
      ∀ e, patTarget u e → inWindow s.ctl.bank (elemIdx e) ∧ patResult s u e = recordElem s (slotBase s.cfg n) e := by
  simp only [loadUnpacks, List.mem_append, mem_flagOps, mem_pitchOps] at hu
  have haddr {j : Nat} (hj : j < 80) : slotBase s.cfg n + j < nvSize s.cfg := (record_bounds hwf n hj).2
  obtain (⟨j, hj, rfl⟩ | ⟨i, hi, rfl⟩) | ⟨i, hi, rfl⟩ := hu
  · have hne := even_ne_odd hj s.ctl.bank
    refine ⟨⟨hne, haddr (by omega)⟩, ?_⟩
    rintro _ ⟨k, rfl | rfl⟩
    · exact ⟨patIdx_inWindow .., (patResult_unpackFlags_even ..).trans (recordElem_even hj k).symm⟩
    · exact ⟨patIdx_inWindow .., (patResult_unpackFlags_odd hne ..).trans (recordElem_odd hj k).symm⟩
  · refine ⟨by rw [WritesPattern, Nat.add_assoc]; exact haddr (by omega), ?_⟩
    rintro _ rfl
    exact ⟨patIdx_inWindow .., (recordElem_pitch hi 0).symm⟩
  · refine ⟨by rw [WritesPattern, Nat.add_assoc]; exact haddr (by omega), ?_⟩
    rintro _ rfl
    exact ⟨patIdx_inWindow .., (recordElem_pitch hi 1).symm⟩

/-- The reading covers the window. -/
theorem exists_loadUnpack {b : BankId} (base : Nat) {e : PatElem} (he : inWindow b (elemIdx e)) :
    ∃ u ∈ loadUnpacks b base, patTarget u e := by
  obtain ⟨i, hi⟩ := inWindow_iff.mp he
  have hofNat : BitVec.ofNat 5 i.toNat = i := by simp
  simp only [loadUnpacks, List.mem_append]
  cases e with
  | flag k x =>
    obtain rfl : patIdx i b = x := hi
    refine ⟨_, .inl (.inl (mem_flagOps.mpr ⟨i.toNat / 2, by omega, rfl⟩)), k, ?_⟩
    obtain heven | hodd := Nat.mod_two_eq_zero_or_one i.toNat
    · left
      rw [evenStep, show 2 * (i.toNat / 2) = i.toNat by omega, hofNat]
    · right
      rw [oddStep, show 2 * (i.toNat / 2) + 1 = i.toNat by omega, hofNat]
  | pitch p x =>
    obtain rfl : patIdx i b = x := hi
    match p with
    | 0 => exact ⟨_, .inl (.inr (mem_pitchOps.mpr ⟨i.toNat, i.isLt, rfl⟩)), by rw [patTarget, hofNat]⟩
    | 1 => exact ⟨_, .inr (mem_pitchOps.mpr ⟨i.toNat, i.isLt, rfl⟩), by rw [patTarget, hofNat]⟩

/-- A whole `LOAD` with no tick between: the window is as the record has it, and only the pattern store differs. -/
theorem perform_load {a : U8} {n : Fin 4} (hwf : s.cfg.wf = true) (hprog : s.prog = []) (ha : a.toNat = n.val) :
    ∃ pat, perform (.load a) 271 s = .next (State.setProg { s with pat := pat } []) ∧
      (∀ e, inWindow s.ctl.bank (elemIdx e) →
        patValue { s with pat := pat } e = recordElem s (slotBase s.cfg n) e) ∧
      ∀ e, ¬ inWindow s.ctl.bank (elemIdx e) → patValue { s with pat := pat } e = patValue s e := by
  obtain ⟨_, hclear, ⟨cleared, rfl⟩, -, hkept⟩ := moves_patternWrites (s := s) (us := loadClears s.ctl.bank)
    (image := fun _ => 0) (fun u hu => (mem_loadClears hu).1) (fun u hu e he => ((mem_loadClears hu).2 e he).2)
    (loadUnpacks s.ctl.bank (slotBase s.cfg n))
  obtain ⟨_, hunpack, ⟨pat, rfl⟩, hread, hleft⟩ := moves_patternWrites (s := { s with pat := cleared })
    (us := loadUnpacks s.ctl.bank (slotBase s.cfg n)) (image := recordElem s (slotBase s.cfg n))
    (fun u hu => (mem_loadUnpacks hwf hu).1) (fun u hu e he =>
      ((mem_loadUnpacks (s := { s with pat := cleared }) hwf hu).2 e he).2.trans (by cases e <;> rfl)) []
  refine ⟨pat, ?_, fun e he => ?_, fun e he => ?_⟩
  · rw [perform_eq_moves rfl hprog (commandOps_load ha) (by simp [loadOps_length]), loadOps_split]
    rw [loadClears_length] at hclear
    rw [loadUnpacks_length, List.append_nil] at hunpack
    exact (moves_of_next (n := 80) hclear).trans hunpack
  · obtain ⟨u, hu, htarget⟩ := exists_loadUnpack (slotBase s.cfg n) he
    exact hread u hu e htarget
  · exact (hleft e fun u hu htarget => he ((mem_loadUnpacks hwf hu).2 e htarget).1).trans
      (hkept e fun u hu htarget => he ((mem_loadClears (s := s) hu).2 e htarget).1)

theorem wf_pitchShift {c : Cfg} (h : c.wf = true) : c.pitchShift < 8 := by
  simp only [Cfg.wf, Bool.and_eq_true] at h
  obtain ⟨-, -, -, -, -, -, hshift, -⟩ := h
  simpa [Cfg.pitchShiftOk] using hshift

/-! ### The codec's statements (R239, R240) -/

/-- Settles O51: the window is read from the record, an even step's flags from the low bits of a byte, an odd one's
from the high bits. -/
theorem loadReplacesTheWindow : Obligations.LoadReplacesTheWindow := by
  refine ⟨fun a s h => exec_load_of_le h s, fun a n s hwf hprog ha => ?_⟩
  intro base
  obtain ⟨pat, hrun, hin, hout⟩ := perform_load hwf hprog ha
  refine ⟨_, hrun, rfl, fun j k x => ⟨fun hx => ?_, fun hx => ?_⟩, fun p i x hx => ?_, fun k x hx => ?_,
    fun p x hx => hout (.pitch p x) hx, rfl, rfl, rfl, rfl, fun _ => rfl⟩
  · obtain rfl := eq_patIdx (i := 2 * j.val) (by omega) hx
    exact flag_of_patValue ((hin (.flag k _) (patIdx_inWindow ..)).trans (recordElem_even j.isLt k))
  · obtain rfl := eq_patIdx (i := 2 * j.val + 1) (by omega) (by omega)
    exact flag_of_patValue ((hin (.flag k _) (patIdx_inWindow ..)).trans (recordElem_odd j.isLt k))
  · obtain rfl := eq_patIdx i.isLt hx
    exact (congrArg BitVec.toInt ((hin (.pitch p _) (patIdx_inWindow ..)).trans (recordElem_pitch i.isLt p))).trans
      (toInt_expand (wf_pitchShift hwf) _)
  · exact flag_of_patValue (hout (.flag k x) hx)

/-- Shifting back what was shifted loses less than the step, when nothing was clamped. -/
theorem shifted_back_bounds {x step : Int} (hstep : 0 < step) (hlo : -128 * step ≤ x) (hhi : x < 128 * step) :
    let q := x / step
    let y := (if q < -128 then -128 else if 127 < q then 127 else q) * step
    y ≤ x ∧ x < y + step := by
  intro q y
  have hq : -128 ≤ q := (Int.le_ediv_iff_mul_le hstep).mpr hlo
  have hq' : q < 128 := (Int.ediv_lt_iff_lt_mul hstep).mpr hhi
  have hy : y = q * step := by simp only [y]; rw [if_neg (by omega), if_neg (by omega)]
  have := Int.lt_ediv_add_one_mul_self x hstep
  rw [Int.add_mul, Int.one_mul] at this
  rw [hy]
  exact ⟨Int.ediv_mul_le x hstep.ne', this⟩

/-- Settles O52: what `LOAD` reads back is what `SAVE` wrote, byte by byte. -/
theorem saveThenLoadReturnsThePattern : Obligations.SaveThenLoadReturnsThePattern := by
  intro a n s t u hwf hcan hprog ha hsave hcfg hnv hbank hidle
  obtain ⟨m, -, hrun, -⟩ := perform_save hwf hcan hprog ha
  obtain rfl := Host.Outcome.next.inj (hrun.symm.trans hsave)
  obtain ⟨t', hrun', -, hflags, hpitch, -⟩ := saveWritesTheRecord.2 a n s hwf hcan hprog ha
  obtain rfl := Host.Outcome.next.inj (hrun.symm.trans hrun')
  obtain ⟨v, hload, -, hflags', hpitch', -⟩ := loadReplacesTheWindow.2 a n u (by rw [hcfg]; exact hwf) hidle ha
  rw [hcfg, hnv, hbank] at hflags' hpitch'
  refine ⟨v, hload, fun k x hx => ?_, fun p x hx => ?_⟩
  · obtain ⟨hlo, hhi⟩ := hx
    let j : Fin 16 := ⟨(x.val - windowFirst s.ctl.bank) / 2, by omega⟩
    have hx : x.val = windowFirst s.ctl.bank + 2 * j.val ∨ x.val = windowFirst s.ctl.bank + 2 * j.val + 1 := by
      simp only [j]; omega
    obtain heven | hodd := hx
    · exact ((hflags' j k x).1 heven).trans ((hflags j k x).1 heven)
    · exact ((hflags' j k x).2 hodd).trans ((hflags j k x).2 hodd)
  · obtain ⟨hlo, hhi⟩ := hx
    have hx : x.val = windowFirst s.ctl.bank + (⟨x.val - windowFirst s.ctl.bank, by omega⟩ : Fin 32).val := by
      simp only; omega
    have hback := (hpitch' p _ x hx).trans (congrArg (· * 2 ^ s.cfg.pitchShift) (hpitch p _ x hx))
    refine ⟨hback, fun hlo' hhi' => ?_⟩
    rw [hback]
    exact shifted_back_bounds (pow_pos (by decide) _) hlo' hhi'

end Sys2Proof.Machine

/-! PROOFS. `BOOT`: the marker it reads, the factory reset it may run, and the settings it restores (R245 to R247). -/

namespace Sys2Proof.Machine

variable {s t : State}

/-! ### The restore (R247) -/

/-- The control registers after the restore from the region. -/
def restoredCtl (s : State) : Control :=
  { s.ctl with
    lastSlot := BitVec.ofNat 2 ((Memory.read s.nv 2).toNat % 4)
    run := (Memory.read s.nv 3).getLsbD 0 || s.ctl.recArmed
    dir := (Memory.read s.nv 3).getLsbD 1
    mix := (Memory.read s.nv 3).getLsbD 2
    click := (Memory.read s.nv 3).getLsbD 3
    bank := BitVec.ofNat 2 ((Memory.read s.nv 4).toNat % 4)
    chan := Memory.read s.nv 5 }

theorem setWidth_two (b : U8) : b.setWidth 2 = BitVec.ofNat 2 (b.toNat % 4) :=
  BitVec.eq_of_toNat_eq (by simp)

theorem moves_restore (hwf : s.cfg.wf = true) :
    moves 4 (s.setProg restoreOps) = .next (State.setProg { s with ctl := restoredCtl s } []) := by
  have hslot (c : Control) (q) : runMicro .restoreSlot (State.setProg { s with ctl := c } q) =
      .next (State.setProg { s with ctl := { c with lastSlot := (Memory.read s.nv 2).setWidth 2 } } q) :=
    withNvByte_of_lt (s := State.setProg { s with ctl := c } q) _ (header_lt_nvSize hwf (by decide))
  have hsettings (c : Control) (q) : runMicro .restoreSettings (State.setProg { s with ctl := c } q) =
      .next (State.setProg { s with ctl := { c with
        run := (Memory.read s.nv 3).getLsbD 0, dir := (Memory.read s.nv 3).getLsbD 1
        mix := (Memory.read s.nv 3).getLsbD 2, click := (Memory.read s.nv 3).getLsbD 3 } } q) :=
    (withNvByte_of_lt (s := State.setProg { s with ctl := c } q) _ (header_lt_nvSize hwf (by decide))).trans
      (congrArg Host.Outcome.next (applySettings_eq ..))
  have hbank (c : Control) (q) : runMicro .restoreBank (State.setProg { s with ctl := c } q) =
      .next (State.setProg { s with ctl := { c with bank := (Memory.read s.nv 4).setWidth 2 } } q) :=
    withNvByte_of_lt (s := State.setProg { s with ctl := c } q) _ (header_lt_nvSize hwf (by decide))
  have hchan (c : Control) (q) : runMicro .restoreChan (State.setProg { s with ctl := c } q) =
      .next (State.setProg { s with ctl := { c with
        chan := Memory.read s.nv 5, run := c.run || c.recArmed } } q) :=
    withNvByte_of_lt (s := State.setProg { s with ctl := c } q) _ (header_lt_nvSize hwf (by decide))
  rw [restoredCtl, ← setWidth_two, ← setWidth_two]
  exact (moves_cons (hslot s.ctl _)).trans ((moves_cons (hsettings ..)).trans ((moves_cons (hbank ..)).trans
    (moves_cons (hchan ..))))

/-! ### The marker and the factory reset (R245, R246) -/

/-- The two reads of the marker, and the choice they make. -/
theorem perform_boot (hwf : s.cfg.wf = true) (hprog : s.prog = []) (n : Nat) : perform .boot (n + 1) s =
    moves n (s.setProg (if magicOk s.cfg (Memory.read s.nv 0) (Memory.read s.nv 1) then restoreOps
      else factoryOps s.cfg ++ restoreOps)) := by
  have hfirst : runMicro .bootMagic0 (s.setProg []) = .next (s.setProg [.bootMagic1 (Memory.read s.nv 0)]) :=
    withNvByte_of_lt _ (header_lt_nvSize hwf (by decide))
  have hsecond : runMicro (.bootMagic1 (Memory.read s.nv 0)) (s.setProg []) =
      .next (s.setProg (if magicOk s.cfg (Memory.read s.nv 0) (Memory.read s.nv 1) then restoreOps
        else factoryOps s.cfg ++ restoreOps)) := by
    refine (withNvByte_of_lt _ (header_lt_nvSize hwf (by decide))).trans ?_
    rw [setProg_prog, List.append_nil]
    rfl
  rw [perform_eq_moves rfl hprog (us := [.bootMagic0]) rfl (by simp)]
  exact (moves_cons hfirst).trans (moves_cons hsecond)

/-- Settles O53: past a good marker the restore follows. -/
theorem bootRestoresAGoodRegion : Obligations.BootRestoresAGoodRegion := by
  intro s hwf hprog h0 h1
  have hmagic : magicOk s.cfg (Memory.read s.nv 0) (Memory.read s.nv 1) = true := by
    rw [magicOk, h0, h1, beq_self_eq_true, beq_self_eq_true]
    rfl
  have hrun := perform_boot hwf hprog 4
  rw [if_pos hmagic, moves_restore hwf] at hrun
  exact ⟨_, hrun, rfl, rfl, rfl, rfl, rfl, rfl, fun _ => rfl⟩

/-- The byte a factory reset leaves at address a. -/
def factoryByte (s : State) (a : Nat) : U8 :=
  if a = 0 then s.cfg.magic0
  else if a = 1 then s.cfg.magic1
  else if a = 5 then s.cfg.chanDefault
  else if a < nvSize s.cfg then 0
  else Memory.read s.nv a

theorem moves_zeros (hcan : Memory.wf s.nv = true) (p : List MicroOp) : ∃ m, Memory.wf m = true ∧
    moves (nvSize s.cfg - 2) (s.setProg ((List.range (nvSize s.cfg - 2)).map (fun a => .nvFill (a + 2) 0) ++ p)) =
      .next ((s.setNv m).setProg p) ∧
    ∀ b, Memory.read m b = if 2 ≤ b ∧ b < nvSize s.cfg then 0 else Memory.read s.nv b := by
  obtain ⟨m, hmoves, hm, hwrite, hleave⟩ := moves_regionWrites (s := s)
    (us := (List.range (nvSize s.cfg - 2)).map fun a => .nvFill (a + 2) 0) (image := fun _ => 0)
    (fun u hu => by
      obtain ⟨a, ha, rfl⟩ := List.mem_map.mp hu
      have := List.mem_range.mp ha
      rw [WritesRegion]
      omega)
    (fun u hu b _ => by
      obtain ⟨a, -, rfl⟩ := List.mem_map.mp hu
      rfl) p hcan
  rw [List.length_map, List.length_range] at hmoves
  refine ⟨m, hm, hmoves, fun b => ?_⟩
  split
  next hb =>
    exact hwrite (.nvFill (b - 2 + 2) 0) (List.mem_map.mpr ⟨b - 2, List.mem_range.mpr (by omega), rfl⟩) b
      (congrArg some (by omega))
  next hb =>
    refine hleave b fun u hu haddr => ?_
    obtain ⟨a, ha, rfl⟩ := List.mem_map.mp hu
    have := List.mem_range.mp ha
    have : a + 2 = b := Option.some.inj haddr
    omega

theorem moves_factory (hwf : s.cfg.wf = true) (hcan : Memory.wf s.nv = true) (p : List MicroOp) :
    ∃ m, moves (nvSize s.cfg + 1) (s.setProg (factoryOps s.cfg ++ p)) = .next ((s.setNv m).setProg p) ∧
      ∀ b, Memory.read m b = factoryByte s b := by
  have hsize : 5 < nvSize s.cfg := header_lt_nvSize hwf (by decide)
  obtain ⟨m, hm, hmoves, hread⟩ := moves_zeros hcan
    ([.nvFill 5 s.cfg.chanDefault, .nvFill 0 s.cfg.magic0, .nvFill 1 s.cfg.magic1] ++ p)
  have hfill {a : Nat} (ha : a < nvSize s.cfg) (v : U8) (m q) : runMicro (.nvFill a v) ((s.setNv m).setProg q) =
      .next ((s.setNv (Memory.write m a v)).setProg q) := nvWrite_of_lt _ ha
  have h5 := Memory.write_wf 5 s.cfg.chanDefault hm
  have h0 := Memory.write_wf 0 s.cfg.magic0 h5
  refine ⟨Memory.write (Memory.write (Memory.write m 5 s.cfg.chanDefault) 0 s.cfg.magic0) 1 s.cfg.magic1, ?_,
    fun b => ?_⟩
  · rw [show nvSize s.cfg + 1 = nvSize s.cfg - 2 + 3 by omega, factoryOps, List.append_assoc]
    exact (moves_of_next hmoves).trans ((moves_cons (hfill hsize ..)).trans ((moves_cons (hfill (by omega) ..)).trans
      (moves_cons (hfill (by omega) ..))))
  · rw [read_write _ _ h0, read_write _ _ h5, read_write _ _ hm, hread, factoryByte]
    grind

/-- Settles O54: past a wrong marker the default is written, the marker last, and then restored from. -/
theorem bootResetsABadRegion : Obligations.BootResetsABadRegion := by
  intro s hwf hcan hprog hbad size
  have hmagic : ¬ magicOk s.cfg (Memory.read s.nv 0) (Memory.read s.nv 1) = true := by
    rw [magicOk, Bool.and_eq_true, beq_iff_eq, beq_iff_eq]
    exact fun ⟨h0, h1⟩ => hbad.elim (· h0) (· h1)
  obtain ⟨m, hfactory, hread⟩ := moves_factory hwf hcan restoreOps
  have hrun : perform .boot (size + 6) s =
      .next (State.setProg { s.setNv m with ctl := restoredCtl (s.setNv m) } []) := by
    rw [perform_boot hwf hprog (size + 5), if_neg hmagic]
    exact (moves_of_next (n := 4) hfactory).trans (moves_restore (s := s.setNv m) hwf)
  have hsize : 5 < size := header_lt_nvSize hwf (by decide)
  have hzero {b : Nat} (h2 : 2 ≤ b) (hb : b < size) (h5 : b ≠ 5) : Memory.read m b = 0 := by
    rw [hread, factoryByte, if_neg (by omega), if_neg (by omega), if_neg h5]
    exact if_pos hb
  have hkept {b : Nat} (hb : size ≤ b) : Memory.read m b = Memory.read s.nv b := by
    rw [hread, factoryByte, if_neg (by omega), if_neg (by omega), if_neg (by omega)]
    exact if_neg (Nat.not_lt.mpr hb)
  have hctl : restoredCtl (s.setNv m) = { s.ctl with
      lastSlot := 0, run := s.ctl.recArmed, dir := false, mix := false, click := false, bank := 0
      chan := s.cfg.chanDefault } := by
    have h2 : Memory.read (s.setNv m).nv 2 = 0 := hzero (by decide) (by omega) (by decide)
    have h3 : Memory.read (s.setNv m).nv 3 = 0 := hzero (by decide) (by omega) (by decide)
    have h4 : Memory.read (s.setNv m).nv 4 = 0 := hzero (by decide) (by omega) (by decide)
    have h5 : Memory.read (s.setNv m).nv 5 = s.cfg.chanDefault := hread 5
    rw [restoredCtl, h2, h3, h4, h5]
    rfl
  exact ⟨_, hrun, rfl, hread 0, hread 1, hread 5, fun b => hzero, fun b => hkept, hctl, rfl, rfl, rfl, rfl⟩

end Sys2Proof.Machine
